-- ==== Sys2Proof/Word.lean ====
section
/-! DEFINITION. The word types of the block: bytes, addresses, region ids and command words. -/

namespace Sys2Proof

/-- A byte: 8 bits, unsigned (00_scope.md R8). -/
abbrev Byte := BitVec 8

/-- A bus address: 16 bits, unsigned (00_scope.md R8, 20_memory.md R60). -/
abbrev Addr := BitVec 16

/-- A region identifier, 0 to 255 (10_state.md R23). -/
abbrev RegionId := BitVec 8

/-- A command word CMD64, or a response word (30_encoding.md R100, R101). -/
abbrev Cmd64 := BitVec 64

end Sys2Proof
end

