-- ==== Sys2Proof/Config.lean ====
section
/-! DEFINITION. What an implementation fixes: the configuration record of 00_scope.md R5, the constants the
source states, the open values, and the reference configuration. -/

namespace Sys2Proof

/-- A window: a contiguous address range, both ends included (00_scope.md section 7, R5). -/
structure Window where
  lo : Addr
  hi : Addr
deriving DecidableEq, Repr

/-- SPRITE_READBACK: what a bus read of the sprite block returns (00_scope.md R5, 41_driver_bus.md R185). -/
inductive SpriteReadback where
  | openBus
  | latched
deriving DecidableEq, Repr

/-- A rate in hertz as a fraction `num / den` (00_scope.md R5: "positive rational"). That it is positive is part
of check WF8, see `Cfg.wf8`. -/
structure Rate where
  num : Nat
  den : Nat
deriving DecidableEq, Repr

/-- The configuration record `Cfg` of 00_scope.md R5. Every field is a parameter of the machine; no command writes
one. -/
structure Cfg where
  winRom : Window
  winVram : Window
  winCram : Window
  winWram : Window
  winIo : Window
  in0Addr : Addr
  in1Addr : Addr
  cfg0Addr : Addr
  cfg1Addr : Addr
  ieAddr : Addr
  flipAddr : Addr
  spriteBase : Addr
  spriteReadback : SpriteReadback
  /-- CFG0_VALUE, OPEN (92_eei_decisions.md D11). -/
  cfg0Value : Byte
  /-- CFG1_VALUE, OPEN (92_eei_decisions.md D11). -/
  cfg1Value : Byte
  sizeRom : Nat
  sizeVram : Nat
  sizeCram : Nat
  sizeWram : Nat
  maxRegions : Nat
  /-- CLOCK_HZ, OPEN (92_eei_decisions.md D12). -/
  clockHz : Rate
  /-- REFRESH_HZ, OPEN (92_eei_decisions.md D12). -/
  refreshHz : Rate
  irqLine : Nat
  /-- FRAME_COUNTER_BITS: the width of the frame counter (00_scope.md R5, 92_eei_decisions.md D13). -/
  frameCounterBits : Nat
  /-- REG_PC, the CPU core's own id of its program counter, OPEN (92_eei_decisions.md D18). -/
  regPc : Nat
  /-- REG_SP, the CPU core's own id of its stack pointer, OPEN (92_eei_decisions.md D18). -/
  regSp : Nat
deriving DecidableEq, Repr

/-- The four driver regions with their windows, in the driver's order (42_driver_lifecycle.md R221). -/
inductive Plane where
  | rom
  | vram
  | cram
  | wram
deriving DecidableEq, Repr

/-- OPEN_BUS: what a read of an unmapped address returns (00_scope.md R5, 20_memory.md R67). -/
abbrev Config.openBus : Byte := 0xFF

/-- MAX_REGION_SIZE: 4 MiB (00_scope.md R5). -/
abbrev Config.maxRegionSize : Nat := 4194304

/-- ROM_SLOTS: the number of program-ROM slots (00_scope.md R5). -/
abbrev Config.romSlots : Nat := 4

/-- ROM_SLOT_SIZE: the size of one program-ROM image (00_scope.md R5). -/
abbrev Config.romSlotSize : Nat := 0x1000

/-- RESET_PC: the program counter that RESET sets (00_scope.md R5, 70_reset_and_hazards.md R341). -/
abbrev Config.resetPc : BitVec 16 := 0x0000

/-- SPRITE_LEN − 1: the offset of the sprite block's last slot (00_scope.md R5, R6 WF7). -/
abbrev Config.spriteLast : Nat := 15

/-- FREE VALUE: CFG0_VALUE of the machine `State.reset` names. OPEN in the spec (D11). Log entry 4. -/
opaque Config.cfg0Value : Byte

/-- FREE VALUE: CFG1_VALUE of the machine `State.reset` names. OPEN in the spec (D11). Log entry 4. -/
opaque Config.cfg1Value : Byte

/-- FREE VALUE: REG_PC of the machine `State.reset` names. OPEN in the spec (D18). Log entry 4. -/
opaque Config.regPc : Nat

/-- FREE VALUE: REG_SP of the machine `State.reset` names. OPEN in the spec (D18). Log entry 4. -/
opaque Config.regSp : Nat

/-- FREE VALUE: what a page reads whose backing byte (region id, offset) does not exist. 10_state.md R26 excludes
such a page in every reachable state. DESIGN CHOICE, safe. Log entry 11. -/
opaque Config.absentByte : Nat → Nat → Byte

/-- FREE VALUE: the 32 bits that STATS's response word shows of a frame counter that 32 bits do not hold, as a function
of the counter. The spec states no result for one. DESIGN CHOICE, safe. Log entry 23. -/
opaque Config.wideFrameCount : Nat → BitVec 32

/-- The reference configuration: the decided values of 00_scope.md R5 with CLOCK_HZ = 3,072,000 and
REFRESH_HZ = 60. PRESUMED (the spec marks the addresses and the rates as general knowledge of the Pac-Man board,
93_implementation_defined.md G1, G3). Log entry 3. -/
def Config.reference : Cfg where
  winRom := ⟨0x0000, 0x3FFF⟩
  winVram := ⟨0x4000, 0x43FF⟩
  winCram := ⟨0x4400, 0x47FF⟩
  winWram := ⟨0x4C00, 0x4FFF⟩
  winIo := ⟨0x5000, 0x50FF⟩
  in0Addr := 0x5000
  in1Addr := 0x5040
  cfg0Addr := 0x5080
  cfg1Addr := 0x50C0
  ieAddr := 0x5000
  flipAddr := 0x5003
  spriteBase := 0x5060
  spriteReadback := .openBus
  cfg0Value := Config.cfg0Value
  cfg1Value := Config.cfg1Value
  sizeRom := 0x4000
  sizeVram := 0x0400
  sizeCram := 0x0400
  sizeWram := 0x0400
  maxRegions := 8
  clockHz := ⟨3072000, 1⟩
  refreshHz := ⟨60, 1⟩
  irqLine := 0
  frameCounterBits := 32
  regPc := Config.regPc
  regSp := Config.regSp

end Sys2Proof
end

