-- ==== Sys2Proof/Machine/AddressMap.lean ====
section
/-! DEFINITION. The address decoder (20_memory.md R62), the driver's regions (42_driver_lifecycle.md R221), the cycle
budget and the stack top, and the reference decoder as a first-match table (30_encoding.md R111). -/

namespace Sys2Proof.Machine

/-- The address lies in the window, both ends included. -/
def inWindow (w : Window) (a : Addr) : Bool := w.lo.toNat ≤ a.toNat && a.toNat ≤ w.hi.toNat

/-- RID_ROM, RID_VRAM, RID_CRAM, RID_WRAM (00_scope.md R5). -/
def planeId : Plane → RegionId
  | .rom => 0
  | .vram => 1
  | .cram => 2
  | .wram => 3

/-- The window of a driver region (42_driver_lifecycle.md R221). -/
def planeWindow (c : Cfg) : Plane → Window
  | .rom => c.winRom
  | .vram => c.winVram
  | .cram => c.winCram
  | .wram => c.winWram

/-- The size of a driver region (42_driver_lifecycle.md R221). -/
def planeSize (c : Cfg) : Plane → Nat
  | .rom => c.sizeRom
  | .vram => c.sizeVram
  | .cram => c.sizeCram
  | .wram => c.sizeWram

/-- Whether a driver region's pages are mapped read-only: ROM's are (42_driver_lifecycle.md R221). -/
def planeReadOnly : Plane → Bool
  | .rom => true
  | .vram => false
  | .cram => false
  | .wram => false

/-- The driver region list, in its order (42_driver_lifecycle.md R221). -/
def driverPlanes : List Plane := [.rom, .vram, .cram, .wram]

/-- The RAM-class regions (42_driver_lifecycle.md R225). -/
def ramPlanes : List Plane := [.vram, .cram, .wram]

/-- The targets of the decode function: ROM, VRAM, CRAM, WRAM (each backed by a region), IO and UNMAPPED
(20_memory.md R62). -/
inductive Target where
  | backed (p : Plane)
  | io
  | unmapped
deriving DecidableEq, Repr

/-- Decode(a): the windows in the source's priority order (20_memory.md R62). -/
def decodeAddr (c : Cfg) (a : Addr) : Target :=
  if inWindow c.winRom a then .backed .rom
  else if inWindow c.winVram a then .backed .vram
  else if inWindow c.winCram a then .backed .cram
  else if inWindow c.winWram a then .backed .wram
  else if inWindow c.winIo a then .io
  else .unmapped

/-- The address lies in the sprite block [SPRITE_BASE, SPRITE_BASE + 15]; the sum is a natural number
(00_scope.md R8, 41_driver_bus.md R183). -/
def inSpriteBlock (c : Cfg) (a : Addr) : Bool :=
  c.spriteBase.toNat ≤ a.toNat && a.toNat ≤ c.spriteBase.toNat + Config.spriteLast

/-- CYCLE_BUDGET = floor(CLOCK_HZ / REFRESH_HZ) (43_frame_scheduler.md R261). -/
def cycleBudget (c : Cfg) : Nat :=
  (c.clockHz.num * c.refreshHz.den) / (c.clockHz.den * c.refreshHz.num)

/-- STACK_TOP = (WIN_WRAM.hi + 1) mod 2^16 (00_scope.md R5, 70_reset_and_hazards.md R341). -/
def stackTop (c : Cfg) : BitVec 16 := c.winWram.hi + 1

/-- The rows of the reference address decoder (30_encoding.md R111). -/
inductive MapRow where
  | rom | vram | cram | wram
  | in0Ie | flip | in1 | sprite | cfg0 | cfg1
  | ioGap | unmapped
deriving DecidableEq, Repr

/-- The match and mask of each row, top to bottom (30_encoding.md R111). -/
def mapTable : List (Addr × Addr × MapRow) :=
  [(0x0000, 0xC000, .rom), (0x4000, 0xFC00, .vram), (0x4400, 0xFC00, .cram), (0x4C00, 0xFC00, .wram),
   (0x5000, 0xFFFF, .in0Ie), (0x5003, 0xFFFF, .flip), (0x5040, 0xFFFF, .in1), (0x5060, 0xFFF0, .sprite),
   (0x5080, 0xFFFF, .cfg0), (0x50C0, 0xFFFF, .cfg1), (0x5000, 0xFF00, .ioGap), (0x0000, 0x0000, .unmapped)]

/-- The first row whose match equals a AND mask; the last row matches every address (30_encoding.md R111). -/
def mapLookup (a : Addr) : MapRow :=
  match mapTable.find? fun e => a &&& e.2.1 == e.1 with
  | some e => e.2.2
  | none => .unmapped

/-- The configuration has the addresses of the reference one; its other fields are free (20_memory.md R64). -/
abbrev usesReferenceMap (c : Cfg) : Prop :=
  c.winRom = Config.reference.winRom ∧ c.winVram = Config.reference.winVram ∧
  c.winCram = Config.reference.winCram ∧ c.winWram = Config.reference.winWram ∧
  c.winIo = Config.reference.winIo ∧ c.in0Addr = Config.reference.in0Addr ∧
  c.in1Addr = Config.reference.in1Addr ∧ c.cfg0Addr = Config.reference.cfg0Addr ∧
  c.cfg1Addr = Config.reference.cfg1Addr ∧ c.ieAddr = Config.reference.ieAddr ∧
  c.flipAddr = Config.reference.flipAddr ∧ c.spriteBase = Config.reference.spriteBase

end Sys2Proof.Machine
end

