-- ==== Sys2Proof/Machine/Admission.lean ====
section
/-! DEFINITION. The checks WF1 to WF9 that admit a configuration (00_scope.md R6). -/

namespace Sys2Proof.Machine

/-- Two windows share no address. -/
def disjoint (w v : Window) : Bool := w.hi.toNat < v.lo.toNat || v.hi.toNat < w.lo.toNat

/-- The five windows, in decode order. -/
def windows (c : Cfg) : List Window := [c.winRom, c.winVram, c.winCram, c.winWram, c.winIo]

/-- WF1: the five windows are pairwise disjoint, and each has lo ≤ hi (hi ≤ 0xFFFF holds by type). -/
def wf1 (c : Cfg) : Bool :=
  (windows c).all (fun w => decide (w.lo.toNat ≤ w.hi.toNat)) &&
  (disjoint c.winRom c.winVram && (disjoint c.winRom c.winCram && (disjoint c.winRom c.winWram &&
  (disjoint c.winRom c.winIo && (disjoint c.winVram c.winCram && (disjoint c.winVram c.winWram &&
  (disjoint c.winVram c.winIo && (disjoint c.winCram c.winWram && (disjoint c.winCram c.winIo &&
  disjoint c.winWram c.winIo)))))))))

/-- WF2: each RAM or ROM window starts and ends on a page boundary. -/
def wf2 (c : Cfg) : Bool :=
  driverPlanes.all fun p =>
    (planeWindow c p).lo.toNat % 256 == 0 && (planeWindow c p).hi.toNat % 256 == 255

/-- WF3: each RAM or ROM window is at most as long as its region. -/
def wf3 (c : Cfg) : Bool :=
  driverPlanes.all fun p =>
    decide ((planeWindow c p).hi.toNat - (planeWindow c p).lo.toNat + 1 ≤ planeSize c p)

/-- WF4: the ROM window starts at 0x0000 and every other window lies above it. -/
def wf4 (c : Cfg) : Bool :=
  c.winRom.lo == 0x0000 &&
  [c.winVram, c.winCram, c.winWram, c.winIo].all fun w => decide (c.winRom.hi.toNat < w.lo.toNat)

/-- WF5: the four read registers are pairwise distinct and lie in the I/O window. -/
def wf5 (c : Cfg) : Bool :=
  decide [c.in0Addr, c.in1Addr, c.cfg0Addr, c.cfg1Addr].Nodup &&
  [c.in0Addr, c.in1Addr, c.cfg0Addr, c.cfg1Addr].all (inWindow c.winIo)

/-- WF6: IE_ADDR and FLIP_ADDR differ and lie in the I/O window. -/
def wf6 (c : Cfg) : Bool :=
  c.ieAddr != c.flipAddr && inWindow c.winIo c.ieAddr && inWindow c.winIo c.flipAddr

/-- WF7: the sprite block lies in the I/O window and holds none of the six register addresses. -/
def wf7 (c : Cfg) : Bool :=
  decide (c.winIo.lo.toNat ≤ c.spriteBase.toNat) &&
  decide (c.spriteBase.toNat + Config.spriteLast ≤ c.winIo.hi.toNat) &&
  [c.in0Addr, c.in1Addr, c.cfg0Addr, c.cfg1Addr, c.ieAddr, c.flipAddr].all fun a => !inSpriteBlock c a

/-- WF8: CYCLE_BUDGET ≥ 1. A rate with a zero numerator or denominator gives the budget 0 and fails here, so both
rates are positive (00_scope.md R5: "positive rational"). Log entry 16. -/
def wf8 (c : Cfg) : Bool := decide (1 ≤ cycleBudget c)

/-- WF9: each region size is 1 to MAX_REGION_SIZE, and MAX_REGIONS ≥ 4. -/
def wf9 (c : Cfg) : Bool :=
  driverPlanes.all (fun p => decide (1 ≤ planeSize c p) && decide (planeSize c p ≤ Config.maxRegionSize)) &&
  decide (4 ≤ c.maxRegions)

/-- The configuration is admitted: every check holds (00_scope.md R6). -/
def admitted (c : Cfg) : Bool :=
  wf1 c && (wf2 c && (wf3 c && (wf4 c && (wf5 c && (wf6 c && (wf7 c && (wf8 c && wf9 c)))))))

end Sys2Proof.Machine
end

