-- ==== Sys2Proof/Machine/Flags.lean ====
section
/-! DEFINITION. The block's flags and counters: the one-bit registers, the loaded-slot bits and the frame counter. -/

namespace Sys2Proof.Machine

/-- v[0]: what IE_ADDR and FLIP_ADDR store of a byte (41_driver_bus.md R184). -/
def bit0 (v : Byte) : Bool := v.getLsbD 0

/-- rom_loaded with bit `k` set (42_driver_lifecycle.md R224). -/
def markSlot (l : BitVec 4) (k : BitVec 8) : BitVec 4 := l ||| (1#4 <<< k.toNat)

/-- Every ROM slot is loaded: rom_loaded = 0b1111 (43_frame_scheduler.md R262). -/
def allLoaded (l : BitVec 4) : Bool := l == 0b1111

/-- The next value of a frame counter of `bits` bits: one up, mod 2^FRAME_COUNTER_BITS (43_frame_scheduler.md R263,
10_state.md R31). -/
def nextFrame (bits n : Nat) : Nat := (n + 1) % 2 ^ bits

end Sys2Proof.Machine
end

