-- ==== Sys2Proof/Syntax.lean ====
section
/-! DEFINITION. The 19 commands of spec/opcode_table.json, the pseudo-instructions of 30_encoding.md R110 and the
places a command may be written in. -/

namespace Sys2Proof

/-- One constructor per row of spec/opcode_table.json; operands as 30_encoding.md R102 assembles them. -/
inductive Instr where
  /-- BRD: the CPU core's byte read (41_driver_bus.md R188). -/
  | brd (a : Addr)
  /-- BWR: the CPU core's byte write (41_driver_bus.md R189). -/
  | bwr (a : Addr) (v : Byte)
  /-- DRD: the host's debug read (41_driver_bus.md R190). -/
  | drd (a : Addr)
  /-- DWR: the host's debug write (41_driver_bus.md R191). -/
  | dwr (a : Addr) (v : Byte)
  /-- INIT: initialise the driver (42_driver_lifecycle.md R223). -/
  | init
  /-- LDROM: load one program-ROM image; the image is out of band (42_driver_lifecycle.md R224). -/
  | ldrom (k : BitVec 8)
  /-- START: enter Running (43_frame_scheduler.md R262). -/
  | start
  /-- RUNF: run one frame; the core's behaviour is out of band (43_frame_scheduler.md R263). -/
  | runf
  /-- RESET: the scheduler-level hardware reset (43_frame_scheduler.md R265). -/
  | reset
  /-- SHUTDOWN: release the driver (42_driver_lifecycle.md R226). -/
  | shutdown
  /-- UPDIN: push a new input snapshot (42_driver_lifecycle.md R227). -/
  | updin (p0 p1 : Byte)
  /-- STATS: report frame count and memory usage (43_frame_scheduler.md R266). -/
  | stats
  /-- ALLOC: allocate a region of `n` bytes (40_address_space_ops.md R141). -/
  | alloc (r : RegionId) (n : BitVec 32)
  /-- FREE: free a region (40_address_space_ops.md R142). -/
  | free (r : RegionId)
  /-- GBASE: query a region's base (40_address_space_ops.md R143). -/
  | gbase (r : RegionId)
  /-- GSIZE: query a region's size (40_address_space_ops.md R144). -/
  | gsize (r : RegionId)
  /-- MAP: install a region into the pages of `lo`..`hi`, both included (40_address_space_ops.md R145). -/
  | map (r : RegionId) (lo hi : Addr) (ro : Bool)
  /-- ASRD: an Address Space byte read (40_address_space_ops.md R147). -/
  | asrd (a : Addr)
  /-- ASWR: an Address Space byte write (40_address_space_ops.md R148). -/
  | aswr (a : Addr) (v : Byte)
deriving DecidableEq, Repr

/-- Where a command is written: sent by the host (or the ROM loader), or issued by the CPU core inside the body of
a RUNF (30_encoding.md R103 column "issued by", R109). -/
inductive Place where
  | host
  | body
deriving DecidableEq, Repr

/-- The pseudo-instructions of 30_encoding.md R110. -/
inductive Pseudo where
  | boot (i0 i1 i2 i3 : List Byte)
  | ien (v : Byte)
  | flipw (v : Byte)
  | spr (n : Nat) (e0 e1 : Byte)
  | dregion (r : RegionId) (lo hi : Addr) (size : BitVec 32) (ro : Bool)
deriving DecidableEq, Repr

end Sys2Proof
end

