-- ==== Sys2Proof/WellFormed.lean ====
section
/-! DEFINITION. Well-formed syntax. The operand widths of 30_encoding.md R100 are the types of `Instr`, so what is
left to check is who may issue a command (R103) and the operand ranges of the pseudo-instructions (R110). The nine
checks of a configuration (00_scope.md R6) stand in Sys2Proof/Machine/Admission.lean. -/

namespace Sys2Proof

/-- Who issues the command (30_encoding.md R103, column "issued by"): only BRD and BWR are the CPU core's. -/
def Instr.place : Instr → Place
  | .brd _ => .body
  | .bwr _ _ => .body
  | .drd _ => .host
  | .dwr _ _ => .host
  | .init => .host
  | .ldrom _ => .host
  | .start => .host
  | .runf => .host
  | .reset => .host
  | .shutdown => .host
  | .updin _ _ => .host
  | .stats => .host
  | .alloc _ _ => .host
  | .free _ => .host
  | .gbase _ => .host
  | .gsize _ => .host
  | .map _ _ _ _ => .host
  | .asrd _ => .host
  | .aswr _ _ => .host

/-- A command is well formed where its issuer may write it (30_encoding.md R103, R109; 41_driver_bus.md R180). -/
def Instr.wf (p : Place) (i : Instr) : Bool := i.place == p

/-- IEN, FLIPW and SPR stand only inside a RUNF body, BOOT and DREGION only outside one, and SPR's pair number is
0 to 7 (30_encoding.md R110). -/
def Pseudo.wf (p : Place) : Pseudo → Bool
  | .boot _ _ _ _ => p == .host
  | .ien _ => p == .body
  | .flipw _ => p == .body
  | .spr n _ _ => p == .body && n < 8
  | .dregion _ _ _ _ _ => p == .host

end Sys2Proof
end

