-- ==== Sys2Proof/Decode.lean ====
section
/-! DEFINITION. Command words (30_encoding.md R100 to R107): the fields of CMD64, the opcode map, the decoder, total
on all 2^64 words, and the encoder written from the same tables. -/

namespace Sys2Proof

/-- The five fields of CMD64 (30_encoding.md R100). ALLOC's S is B and D together. -/
structure Fields where
  op : BitVec 8
  k : BitVec 8
  a : BitVec 16
  b : BitVec 16
  d : BitVec 16
deriving DecidableEq, Repr

/-- The fields of a word: OP w[63:56], K w[55:48], A w[47:32], B w[31:16], D w[15:0] (30_encoding.md R100). -/
def Fields.ofWord (w : Cmd64) : Fields where
  op := w.extractLsb' 56 8
  k := w.extractLsb' 48 8
  a := w.extractLsb' 32 16
  b := w.extractLsb' 16 16
  d := w.extractLsb' 0 16

/-- The word that holds the fields (30_encoding.md R100). -/
def Fields.word (f : Fields) : Cmd64 := f.op ++ f.k ++ f.a ++ f.b ++ f.d

/-- The rows of the opcode map (30_encoding.md R103). -/
inductive Opcode where
  | brd | bwr | drd | dwr
  | init | ldrom | start | runf | reset | shutdown | updin | stats
  | alloc | free | gbase | gsize | map | asrd | aswr
deriving DecidableEq, Repr

/-- The OP byte of each row (30_encoding.md R103). -/
def Opcode.code : Opcode → BitVec 8
  | .brd => 0x01
  | .bwr => 0x02
  | .drd => 0x03
  | .dwr => 0x04
  | .init => 0x10
  | .ldrom => 0x11
  | .start => 0x12
  | .runf => 0x13
  | .reset => 0x14
  | .shutdown => 0x15
  | .updin => 0x16
  | .stats => 0x17
  | .alloc => 0x20
  | .free => 0x21
  | .gbase => 0x22
  | .gsize => 0x23
  | .map => 0x24
  | .asrd => 0x25
  | .aswr => 0x26

/-- The bits of each field that carry an operand; every other bit is reserved and must be zero (30_encoding.md
R102, R104). -/
structure Layout where
  k : BitVec 8
  a : BitVec 16
  b : BitVec 16
  d : BitVec 16
deriving DecidableEq, Repr

/-- The operand bits of each row (30_encoding.md R102). -/
def Opcode.layout : Opcode → Layout
  | .brd => ⟨0, 0xFFFF, 0, 0⟩
  | .bwr => ⟨0, 0xFFFF, 0, 0x00FF⟩
  | .drd => ⟨0, 0xFFFF, 0, 0⟩
  | .dwr => ⟨0, 0xFFFF, 0, 0x00FF⟩
  | .init => ⟨0, 0, 0, 0⟩
  | .ldrom => ⟨0xFF, 0, 0, 0⟩
  | .start => ⟨0, 0, 0, 0⟩
  | .runf => ⟨0, 0, 0, 0⟩
  | .reset => ⟨0, 0, 0, 0⟩
  | .shutdown => ⟨0, 0, 0, 0⟩
  | .updin => ⟨0, 0, 0, 0xFFFF⟩
  | .stats => ⟨0, 0, 0, 0⟩
  | .alloc => ⟨0xFF, 0, 0xFFFF, 0xFFFF⟩
  | .free => ⟨0xFF, 0, 0, 0⟩
  | .gbase => ⟨0xFF, 0, 0, 0⟩
  | .gsize => ⟨0xFF, 0, 0, 0⟩
  | .map => ⟨0xFF, 0xFFFF, 0xFFFF, 0x0001⟩
  | .asrd => ⟨0, 0xFFFF, 0, 0⟩
  | .aswr => ⟨0, 0xFFFF, 0, 0x00FF⟩

/-- Every reserved bit of the fields is zero (30_encoding.md R104). -/
def Layout.admits (l : Layout) (f : Fields) : Bool :=
  f.k &&& ~~~l.k == 0 && f.a &&& ~~~l.a == 0 && f.b &&& ~~~l.b == 0 && f.d &&& ~~~l.d == 0

/-- All rows, in the table's order (30_encoding.md R103). -/
def Opcode.all : List Opcode :=
  [.brd, .bwr, .drd, .dwr, .init, .ldrom, .start, .runf, .reset, .shutdown, .updin, .stats,
   .alloc, .free, .gbase, .gsize, .map, .asrd, .aswr]

/-- The row an OP byte selects, none for an unassigned one (30_encoding.md R103, R105). -/
def Opcode.ofByte (op : BitVec 8) : Option Opcode := Opcode.all.find? fun o => o.code == op

/-- Field assembly: the command a row's fields give (30_encoding.md R102). -/
def Opcode.instr (f : Fields) : Opcode → Instr
  | .brd => .brd f.a
  | .bwr => .bwr f.a (f.d.extractLsb' 0 8)
  | .drd => .drd f.a
  | .dwr => .dwr f.a (f.d.extractLsb' 0 8)
  | .init => .init
  | .ldrom => .ldrom f.k
  | .start => .start
  | .runf => .runf
  | .reset => .reset
  | .shutdown => .shutdown
  | .updin => .updin (f.d.extractLsb' 0 8) (f.d.extractLsb' 8 8)
  | .stats => .stats
  | .alloc => .alloc f.k (f.b ++ f.d)
  | .free => .free f.k
  | .gbase => .gbase f.k
  | .gsize => .gsize f.k
  | .map => .map f.k f.a f.b (f.d.getLsbD 0)
  | .asrd => .asrd f.a
  | .aswr => .aswr f.a (f.d.extractLsb' 0 8)

/-- Why a word decodes to no command. -/
inductive DecodeError where
  /-- The OP byte is unassigned (30_encoding.md R105). -/
  | unassignedOpcode (op : BitVec 8)
  /-- A reserved bit of the row is set (30_encoding.md R104). -/
  | reservedBits (op : BitVec 8)
deriving DecidableEq, Repr

/-- The command decoder, total on all 2^64 words (30_encoding.md R106). -/
def decode (w : Cmd64) : Except DecodeError Instr :=
  let f := Fields.ofWord w
  match Opcode.ofByte f.op with
  | none => .error (.unassignedOpcode f.op)
  | some o => if o.layout.admits f then .ok (o.instr f) else .error (.reservedBits f.op)

/-- The row of a command (30_encoding.md R103). -/
def Instr.opcode : Instr → Opcode
  | .brd _ => .brd
  | .bwr _ _ => .bwr
  | .drd _ => .drd
  | .dwr _ _ => .dwr
  | .init => .init
  | .ldrom _ => .ldrom
  | .start => .start
  | .runf => .runf
  | .reset => .reset
  | .shutdown => .shutdown
  | .updin _ _ => .updin
  | .stats => .stats
  | .alloc _ _ => .alloc
  | .free _ => .free
  | .gbase _ => .gbase
  | .gsize _ => .gsize
  | .map _ _ _ _ => .map
  | .asrd _ => .asrd
  | .aswr _ _ => .aswr

/-- A command's fields (30_encoding.md R102). -/
def Instr.fields : Instr → Fields
  | .brd a => ⟨0x01, 0, a, 0, 0⟩
  | .bwr a v => ⟨0x02, 0, a, 0, v.setWidth 16⟩
  | .drd a => ⟨0x03, 0, a, 0, 0⟩
  | .dwr a v => ⟨0x04, 0, a, 0, v.setWidth 16⟩
  | .init => ⟨0x10, 0, 0, 0, 0⟩
  | .ldrom k => ⟨0x11, k, 0, 0, 0⟩
  | .start => ⟨0x12, 0, 0, 0, 0⟩
  | .runf => ⟨0x13, 0, 0, 0, 0⟩
  | .reset => ⟨0x14, 0, 0, 0, 0⟩
  | .shutdown => ⟨0x15, 0, 0, 0, 0⟩
  | .updin p0 p1 => ⟨0x16, 0, 0, 0, p1 ++ p0⟩
  | .stats => ⟨0x17, 0, 0, 0, 0⟩
  | .alloc r n => ⟨0x20, r, 0, n.extractLsb' 16 16, n.extractLsb' 0 16⟩
  | .free r => ⟨0x21, r, 0, 0, 0⟩
  | .gbase r => ⟨0x22, r, 0, 0, 0⟩
  | .gsize r => ⟨0x23, r, 0, 0, 0⟩
  | .map r lo hi ro => ⟨0x24, r, lo, hi, (BitVec.ofBool ro).setWidth 16⟩
  | .asrd a => ⟨0x25, 0, a, 0, 0⟩
  | .aswr a v => ⟨0x26, 0, a, 0, v.setWidth 16⟩

/-- The encoder: the word of a command (30_encoding.md R100, R102, R103). -/
def encode (i : Instr) : Cmd64 := i.fields.word

/-- The match and mask of each row of spec/opcode_table.json, over w[63:0] (30_encoding.md R103, R104). -/
def Opcode.matchMask : Opcode → Cmd64 × Cmd64
  | .brd => (0x0100000000000000, 0xFFFF0000FFFFFFFF)
  | .bwr => (0x0200000000000000, 0xFFFF0000FFFFFF00)
  | .drd => (0x0300000000000000, 0xFFFF0000FFFFFFFF)
  | .dwr => (0x0400000000000000, 0xFFFF0000FFFFFF00)
  | .init => (0x1000000000000000, 0xFFFFFFFFFFFFFFFF)
  | .ldrom => (0x1100000000000000, 0xFF00FFFFFFFFFFFF)
  | .start => (0x1200000000000000, 0xFFFFFFFFFFFFFFFF)
  | .runf => (0x1300000000000000, 0xFFFFFFFFFFFFFFFF)
  | .reset => (0x1400000000000000, 0xFFFFFFFFFFFFFFFF)
  | .shutdown => (0x1500000000000000, 0xFFFFFFFFFFFFFFFF)
  | .updin => (0x1600000000000000, 0xFFFFFFFFFFFF0000)
  | .stats => (0x1700000000000000, 0xFFFFFFFFFFFFFFFF)
  | .alloc => (0x2000000000000000, 0xFF00FFFF00000000)
  | .free => (0x2100000000000000, 0xFF00FFFFFFFFFFFF)
  | .gbase => (0x2200000000000000, 0xFF00FFFFFFFFFFFF)
  | .gsize => (0x2300000000000000, 0xFF00FFFFFFFFFFFF)
  | .map => (0x2400000000000000, 0xFF0000000000FFFE)
  | .asrd => (0x2500000000000000, 0xFFFF0000FFFFFFFF)
  | .aswr => (0x2600000000000000, 0xFFFF0000FFFFFF00)

/-- What the decoder reads from the `nbits` low bits of `w`, numbered as spec/opcode_table.json numbers them; every
row has 64 bits, one word (30_encoding.md R107). -/
def decodeTableWord (nbits w : Nat) : Option Instr :=
  match decode (BitVec.ofNat 64 (w % 2 ^ nbits)) with
  | .ok i => some i
  | .error _ => none

end Sys2Proof
end

