-- ==== Sys2Proof/Machine/Sparse.lean ====
section
/-! DEFINITION. Sparse tables: a finite map from Nat to a type with a default, held as a list of (key, value) pairs in
one canonical form (keys strictly rising, no entry equal to the default). Memory, the region table and the page
table are such tables. -/

namespace Sys2Proof.Machine

/-- A sparse table: the listed keys with their values; an unlisted key holds the default of its use. -/
abbrev Sparse (α : Type) := List (Nat × α)

variable {α : Type}

/-- The value at key `k`, the default `d` where `k` is not listed. -/
def Sparse.read (d : α) : Sparse α → Nat → α
  | [], _ => d
  | (j, x) :: t, k => if j = k then x else Sparse.read d t k

/-- List `k` with `x`, in the place its key gives it, over any entry of that key. -/
def Sparse.insert (k : Nat) (x : α) : Sparse α → Sparse α
  | [] => [(k, x)]
  | (j, y) :: t =>
    if k < j then (k, x) :: (j, y) :: t
    else if j = k then (k, x) :: t
    else (j, y) :: Sparse.insert k x t

/-- Write `x` at key `k`; writing the default removes the entry. -/
def Sparse.write [DecidableEq α] (d : α) (t : Sparse α) (k : Nat) (x : α) : Sparse α :=
  if x = d then t.filter fun e => e.1 != k else Sparse.insert k x t

/-- The canonical form: keys strictly rising, no entry equal to the default. -/
abbrev Sparse.Canonical [DecidableEq α] (d : α) (t : Sparse α) : Prop :=
  t.Pairwise (fun e e' => e.1 < e'.1) ∧ ∀ e ∈ t, e.2 ≠ d

end Sys2Proof.Machine
end

