-- ==== Sys2Proof/Machine/Memory.lean ====
section
/-! DEFINITION. The bytes of a memory region (10_state.md R23), as a canonical list of (offset, byte) cells. -/

namespace Sys2Proof.Machine

/-- A region's bytes: (offset, byte) cells, offsets strictly rising, none equal to `Memory.unlisted`. -/
abbrev Memory := List Host.Cell

/-- What an unlisted offset reads as: a region is created zero-initialised (10_state.md R24.3, 40_address_space_ops.md
R141). Log entry 14. -/
abbrev Memory.unlisted : Byte := 0x00

/-- Every byte 0x00 (40_address_space_ops.md R141: "n copies of 0x00"). -/
def Memory.zero : Memory := []

/-- The byte at offset `i`. -/
def Memory.read (m : Memory) (i : Nat) : Byte := Sparse.read Memory.unlisted m i

/-- Store `v` at offset `i`. -/
def Memory.write (m : Memory) (i : Nat) (v : Byte) : Memory := Sparse.write Memory.unlisted m i v

/-- Store the bytes of `img` at offsets `base`, `base + 1`, … (42_driver_lifecycle.md R224: the copy loop). -/
def Memory.load (m : Memory) (base : Nat) : List Byte → Memory
  | [] => m
  | v :: img => Memory.write (Memory.load m (base + 1) img) base v

/-- The canonical form. -/
abbrev Memory.wf (m : Memory) : Prop := Sparse.Canonical Memory.unlisted m

end Sys2Proof.Machine
end

