-- ==== Sys2Proof/Machine/State.lean ====
section
/-! DEFINITION. The state of the block (10_state.md R20 to R35), with its configuration and the out-of-band inputs
and results of a command (00_scope.md R9), and the state of a new session. -/

namespace Sys2Proof.Machine

/-- The Frame Scheduler's state (10_state.md R21). -/
inductive Sched where
  | idle
  | running
  | haltedError
deriving DecidableEq, Repr

/-- A memory region (10_state.md R23). -/
structure Region where
  size : Nat
  bytes : Memory
  /-- Informational only: no rule reads it (R23). -/
  name : String
deriving DecidableEq, Repr

/-- A page descriptor (10_state.md R25). -/
inductive PageDesc where
  | unmapped
  | mapped (r : RegionId) (off : Nat) (ro : Bool)
deriving DecidableEq, Repr

/-- The interrupt line's states that the core's interface offers (10_state.md R35). -/
inductive LineState where
  | clear
  | assert
  | hold
  | pulse
deriving DecidableEq, Repr

/-- A call the block makes to the external CPU core (10_state.md R35). -/
inductive CoreCall where
  | execute (cycles : Nat)
  | irqLine (line : Nat) (st : LineState)
  | cpuReset
  | setReg (id : Nat) (v : BitVec 16)
deriving DecidableEq, Repr

/-- The error taxonomy (60_exceptions.md R300). -/
inductive Err where
  | allocation
  | configuration
  | state
  | data
  | execution
deriving DecidableEq, Repr

/-- What a successful command returns (30_encoding.md R101). -/
inductive Value where
  /-- The command returns no value. -/
  | none
  /-- BRD, DRD, ASRD: the byte read. -/
  | byte (b : Byte)
  /-- GBASE: the handle, which names the region, or None (40_address_space_ops.md R143). -/
  | handle (h : Option RegionId)
  /-- GSIZE: the size or None (40_address_space_ops.md R144). -/
  | size (n : Option Nat)
  /-- STATS: the frame count and the exact memory usage (43_frame_scheduler.md R266). -/
  | stats (frames usage : Nat)
deriving DecidableEq, Repr

/-- A command's result: `Ok(v)` or `Err(e)` (00_scope.md R8). -/
inductive Response where
  | ok (v : Value)
  | err (e : Err)
deriving DecidableEq, Repr

/-- A bus transaction the CPU core issues during `execute` (43_frame_scheduler.md R263, 30_encoding.md R109). -/
inductive BusOp where
  | read (a : Addr)
  | write (a : Addr) (v : Byte)
deriving DecidableEq, Repr

/-- The CPU core's behaviour during one `execute` (00_scope.md R9): its bus transactions in order, whether it reports
success, and the cycle count it reports, which the block ignores (70_reset_and_hazards.md R350). Any such behaviour
may come (93_implementation_defined.md U7, U8). Log entry 6. -/
structure CoreDraw where
  body : List BusOp
  success : Bool
  cycles : Nat
deriving DecidableEq, Repr

/-- A command handed to the block: its word and its out-of-band operands (30_encoding.md R100). Log entry 1. -/
structure Submission where
  word : Cmd64
  image : List Byte
  draw : CoreDraw
deriving DecidableEq, Repr

/-- The faults of the block (10_state.md R33, `FaultReason`). A fault is recorded in `State.fault`, as
60_exceptions.md R306 says; no step ends in one. -/
inductive Fault where
  /-- Raised by CheckBacked (41_driver_bus.md R187) when a RAM or ROM window's page is not mapped to its own region
  at its own offset. Recorded in `State.fault`. Safe. -/
  | decodeInvariant (a : Addr)
deriving DecidableEq, Repr

/-- Why a step has no meaning. -/
inductive Refusal where
  /-- Raised by an arm of `exec` whose instruction has no meaning yet: none. Safe. -/
  | notModelled (mnemonic : String)
  /-- Raised by `step` when the configuration fails one of the checks WF1 to WF9 (00_scope.md R6: "the model gives it
  no meaning"). Safe. -/
  | configNotAdmitted
deriving DecidableEq, Repr

/-- The state. The fields from `sched` to `cpuOut` are the spec's record S (10_state.md R20). `cfg` is the machine's
configuration (00_scope.md R5, log entry 2). The rest are the out-of-band inputs and the results of commands
(00_scope.md R9, log entries 1, 7, 10). -/
structure State where
  sched : Sched
  ready : Bool
  regions : Sparse (Option Region)
  pages : Sparse PageDesc
  ie : Bool
  flip : Bool
  sprite : Vector Byte 16
  in0 : Byte
  in1 : Byte
  /-- An unsigned number of `cfg.frameCounterBits` bits (10_state.md R31). -/
  frameCount : Nat
  romLoaded : BitVec 4
  fault : Option Fault
  refused : Bool
  cpuOut : List CoreCall
  cfg : Cfg
  /-- RUNF is inside its `execute` call (41_driver_bus.md R180). -/
  inExecute : Bool
  /-- The LDROM image given with the command being run (42_driver_lifecycle.md R224). -/
  image : List Byte
  /-- The core's behaviour given with the command being run (43_frame_scheduler.md R263). -/
  draw : CoreDraw
  /-- The commands handed to the block and not yet run, first come first. -/
  pending : List Submission
  /-- The result of the last command, none where it ended with no result. -/
  response : Option Response
  /-- The bytes BRD gave to the core in the current or last RUNF, in order (41_driver_bus.md R188). -/
  received : List Byte
deriving DecidableEq, Repr

/-- A new session (10_state.md R38 column "Create", 70_reset_and_hazards.md R340): Idle, not ready, no region, every
page Unmapped, no fault, no call made. The device register file holds no readable value before INIT; the zeros here
are the model's choice (log entry 5). The configuration is the reference one (log entry 3). -/
def State.reset : State where
  sched := .idle
  ready := false
  regions := []
  pages := []
  ie := false
  flip := false
  sprite := Vector.replicate 16 0x00
  in0 := 0x00
  in1 := 0x00
  frameCount := 0
  romLoaded := 0
  fault := none
  refused := false
  cpuOut := []
  cfg := Config.reference
  inExecute := false
  image := []
  draw := ⟨[], true, 0⟩
  pending := []
  response := none
  received := []

end Sys2Proof.Machine
end

