-- ==== Sys2Proof/Machine/Operands.lean ====
section
/-! DEFINITION. Operand forms: the page and byte of an address, the sprite slot of an address, the ROM offset of a
slot, MAP's range checks, and the response word (30_encoding.md R101). -/

namespace Sys2Proof.Machine

/-- The page of an address, a[15:8] (40_address_space_ops.md R146). -/
def pageOf (a : Addr) : Nat := (a.extractLsb' 8 8).toNat

/-- The byte of an address within its page, a[7:0] (40_address_space_ops.md R146). -/
def offsetOf (a : Addr) : Nat := (a.extractLsb' 0 8).toNat

/-- The page number of a MAP bound, `a div 256` (40_address_space_ops.md R145). -/
def pageNumber (a : Addr) : Nat := a.toNat / 256

/-- The slot a − SPRITE_BASE of an address in the sprite block (41_driver_bus.md R183, R184). -/
def spriteSlot (c : Cfg) (a : Addr) : BitVec 4 := (a - c.spriteBase).setWidth 4

/-- The ROM offset of slot `k`: k × 0x1000 (42_driver_lifecycle.md R224). -/
def slotBase (k : BitVec 8) : Nat := k.toNat * Config.romSlotSize

/-- MAP's bounds are page-aligned: the start on a page's first byte, the end on a page's last
(40_address_space_ops.md R145). -/
def rangeAligned (lo hi : Addr) : Bool := lo.toNat % 256 == 0 && hi.toNat % 256 == 255

/-- The length of MAP's range, e − s + 1, for s ≤ e (40_address_space_ops.md R145). -/
def rangeLength (lo hi : Addr) : Nat := hi.toNat - lo.toNat + 1

/-- The number of pages of MAP's range, for s ≤ e (40_address_space_ops.md R145). -/
def rangePages (lo hi : Addr) : Nat := pageNumber hi - pageNumber lo + 1

/-- The page descriptor refers to region `r` (40_address_space_ops.md R142). -/
def refersTo (r : RegionId) : PageDesc → Bool
  | .unmapped => false
  | .mapped q _ _ => q == r

/-- The status code of an error (60_exceptions.md R300). -/
def errCode : Err → BitVec 8
  | .allocation => 0x01
  | .configuration => 0x02
  | .state => 0x03
  | .data => 0x04
  | .execution => 0x05

/-- The frame count in r[31:0] of STATS's response word (30_encoding.md R101). A count that 32 bits do not hold, which
only a FRAME_COUNTER_BITS above 32 allows, shows a free value. Log entry 23. -/
def frameCountBits (n : Nat) : BitVec 32 := if n < 2 ^ 32 then BitVec.ofNat 32 n else Config.wideFrameCount n

/-- The value part r[55:0] of a successful response (30_encoding.md R101). STATS's memory usage saturates at
0xFF_FFFF here and only here. -/
def valueBits : Value → BitVec 56
  | .none => 0
  | .byte b => b.setWidth 56
  | .handle none => 0
  | .handle (some r) => 0x100 ||| r.setWidth 56
  | .size none => 0
  | .size (some n) => 0x100000000 ||| BitVec.ofNat 56 n
  | .stats frames usage => BitVec.ofNat 24 (min usage 0xFFFFFF) ++ frameCountBits frames

/-- The response word: status in r[63:56], value in r[55:0] (30_encoding.md R101). -/
def responseWord : Response → Cmd64
  | .ok v => (0x00 : BitVec 8) ++ valueBits v
  | .err e => errCode e ++ (0 : BitVec 56)

end Sys2Proof.Machine
end

