-- ==== Sys2Proof/Machine/Ops.lean ====
section
/-! DEFINITION. The named operations over the state: one update per field, how a command ends (a result, an error, a
fault, a refusal), the region allocator and page table, the driver's dispatch, and the calls to the CPU core. -/

namespace Sys2Proof.Machine

/-! ### Updates of one field -/

def State.setSched (s : State) (x : Sched) : State := { s with sched := x }
def State.setReady (s : State) (x : Bool) : State := { s with ready := x }
def State.setRegions (s : State) (x : Sparse (Option Region)) : State := { s with regions := x }
def State.setPages (s : State) (x : Sparse PageDesc) : State := { s with pages := x }
def State.setIe (s : State) (x : Bool) : State := { s with ie := x }
def State.setFlip (s : State) (x : Bool) : State := { s with flip := x }
def State.setSprite (s : State) (x : Vector Byte 16) : State := { s with sprite := x }
def State.setInputs (s : State) (p0 p1 : Byte) : State := { s with in0 := p0, in1 := p1 }
def State.setFrameCount (s : State) (x : Nat) : State := { s with frameCount := x }
def State.setRomLoaded (s : State) (x : BitVec 4) : State := { s with romLoaded := x }
def State.setInExecute (s : State) (x : Bool) : State := { s with inExecute := x }
def State.setReceived (s : State) (x : List Byte) : State := { s with received := x }

/-! ### How a command ends (00_scope.md R8) -/

/-- `return v`: the command ends with `Ok(v)` (00_scope.md R8). -/
def State.reply (s : State) (v : Value) : State := { s with response := some (.ok v) }

/-- `raise E`: the command ends with `Err(E)`; every other field stays (00_scope.md R8, 60_exceptions.md R300). -/
def State.fail (s : State) (e : Err) : State := { s with response := some (.err e) }

/-- `fault F`: the fault is recorded and the command ends with no result (60_exceptions.md R306). -/
def State.raiseFault (s : State) (f : Fault) : State := { s with fault := some f, response := none }

/-- `refuse`: S.refused is set, nothing else of S changes, and there is no result (30_encoding.md R106). Log
entry 8. -/
def State.refuse (s : State) : State := { s with refused := true, response := none }

/-- `emit e`: append a call to the CPU core to cpu_out (00_scope.md R8, 10_state.md R35). -/
def State.emit (s : State) (e : CoreCall) : State := { s with cpuOut := s.cpuOut ++ [e] }

/-- Run a command's body; in a faulted state every command is refused (60_exceptions.md R306). Log entry 9. -/
def State.command (s : State) (body : State → State) : State :=
  if s.fault.isSome then s.refuse else body s

/-- Run a command's body unless the scheduler is in HaltedError, where it raises StateError
(40_address_space_ops.md R140, 43_frame_scheduler.md R268). -/
def State.unlessHalted (s : State) (body : State → State) : State :=
  if s.sched = .haltedError then s.fail .state else body s

/-- Run a command's body when the driver is ready and the scheduler not in HaltedError, else raise StateError
(60_exceptions.md R303: DRD, DWR, UPDIN, STATS). -/
def State.whenReady (s : State) (body : State → State) : State :=
  if !s.ready || s.sched = .haltedError then s.fail .state else body s

/-! ### Regions and their bytes (10_state.md R23) -/

/-- S.regions[r]. -/
def State.region (s : State) (r : RegionId) : Option Region := Sparse.read none s.regions r.toNat

/-- S.regions[r] <- x. -/
def State.setRegion (s : State) (r : RegionId) (x : Option Region) : State :=
  s.setRegions (Sparse.write none s.regions r.toNat x)

/-- The live regions. -/
def State.liveRegions (s : State) : List Region := s.regions.filterMap fun e => e.2

/-- The number of live regions (40_address_space_ops.md R141). -/
def State.liveCount (s : State) : Nat := s.liveRegions.length

/-- The sum of the sizes of the live regions (43_frame_scheduler.md R266). -/
def State.memoryUsage (s : State) : Nat := (s.liveRegions.map fun R => R.size).sum

/-- Byte `i` of region `r`, none where there is no such byte. -/
def State.byteAt (s : State) (r : RegionId) (i : Nat) : Option Byte :=
  match s.region r with
  | some R => if i < R.size then some (R.bytes.read i) else none
  | none => none

/-- S.regions[r].bytes[i] as a read sees it; a byte that does not exist reads a free value (10_state.md R26 excludes
it in every reachable state). DESIGN CHOICE, safe. Log entry 11. -/
def State.regionByte (s : State) (r : RegionId) (i : Nat) : Byte :=
  (s.byteAt r i).getD (Config.absentByte r.toNat i)

/-- S.regions[r].bytes[i] <- v; a byte that does not exist is not stored (10_state.md R26 excludes it in every
reachable state). DESIGN CHOICE, unsafe only where R26 fails. Log entry 11. -/
def State.putByte (s : State) (r : RegionId) (i : Nat) (v : Byte) : State :=
  match s.region r with
  | some R => if i < R.size then s.setRegion r (some { R with bytes := R.bytes.write i v }) else s
  | none => s

/-! ### The region allocator and the page table (40_address_space_ops.md) -/

/-- ALLOC past its state check; none is AllocationError (40_address_space_ops.md R141). -/
def State.alloc (s : State) (r : RegionId) (n : Nat) : Option State :=
  if (s.region r).isSome then none
  else if n = 0 ∨ Config.maxRegionSize < n then none
  else if s.cfg.maxRegions ≤ s.liveCount then none
  else some (s.setRegion r (some ⟨n, Memory.zero, ""⟩))

/-- S.pages[p]. -/
def State.page (s : State) (p : Nat) : PageDesc := Sparse.read .unmapped s.pages p

/-- Unmap, of the listed pages, each one that refers to region `r` (40_address_space_ops.md R142). -/
def unmapPages (r : RegionId) : List Nat → Sparse PageDesc → Sparse PageDesc
  | [], t => t
  | p :: ps, t =>
    unmapPages r ps
      (if refersTo r (Sparse.read .unmapped t p) then Sparse.write .unmapped t p .unmapped else t)

/-- FREE past its state check: unmap every page that refers to the region, then drop the region; a double free
changes nothing (40_address_space_ops.md R142). Only a listed page can refer to a region, so the loop runs over the
listed ones. -/
def State.release (s : State) (r : RegionId) : State :=
  match s.region r with
  | none => s
  | some _ => (s.setPages (unmapPages r (s.pages.map Prod.fst) s.pages)).setRegion r none

/-- Map `n` pages from page `p` on to region `r`, page q at offset q·256 − start (40_address_space_ops.md R145). -/
def mapPages (r : RegionId) (ro : Bool) (start : Nat) : Nat → Nat → Sparse PageDesc → Sparse PageDesc
  | 0, _, t => t
  | n + 1, p, t =>
    mapPages r ro start n (p + 1) (Sparse.write .unmapped t p (.mapped r (p * 256 - start) ro))

/-- MAP past its state check; none is ConfigurationError (40_address_space_ops.md R145). -/
def State.mapRange (s : State) (r : RegionId) (lo hi : Addr) (ro : Bool) : Option State :=
  match s.region r with
  | none => none
  | some R =>
    if !rangeAligned lo hi then none
    else if hi.toNat < lo.toNat then none
    else if R.size < rangeLength lo hi then none
    else some (s.setPages (mapPages r ro lo.toNat (rangePages lo hi) (pageNumber lo) s.pages))

/-- Translate(a): the region, the offset in it and the read-only flag of an address (40_address_space_ops.md R146). -/
def State.translate (s : State) (a : Addr) : Option (RegionId × Nat × Bool) :=
  match s.page (pageOf a) with
  | .unmapped => none
  | .mapped r off ro => some (r, off + offsetOf a, ro)

/-- ASRead(a) (40_address_space_ops.md R147). -/
def State.asRead (s : State) (a : Addr) : Byte :=
  match s.translate a with
  | none => Config.openBus
  | some (r, i, _) => s.regionByte r i

/-- Where ASWrite(a, ·) stores: the region and offset of a mapped, writable page, none otherwise
(40_address_space_ops.md R148). -/
def State.storeTarget (s : State) (a : Addr) : Option (RegionId × Nat) :=
  match s.translate a with
  | some (r, i, false) => some (r, i)
  | some (_, _, true) => none
  | none => none

/-- ASWrite(a, v) (40_address_space_ops.md R148). -/
def State.asWrite (s : State) (a : Addr) (v : Byte) : State :=
  match s.storeTarget a with
  | some (r, i) => s.putByte r i v
  | none => s

/-! ### The driver's dispatch (41_driver_bus.md) -/

/-- CheckBacked(t, a): the page is mapped to the window's own region at its own offset (41_driver_bus.md R187). -/
def State.checkBacked (s : State) (p : Plane) (a : Addr) : Bool :=
  match s.translate a with
  | none => false
  | some (r, i, _) => r == planeId p && i == a.toNat - (planeWindow s.cfg p).lo.toNat

/-- SpriteRead(i) (41_driver_bus.md R185). -/
def State.spriteRead (s : State) (i : BitVec 4) : Byte :=
  match s.cfg.spriteReadback with
  | .openBus => Config.openBus
  | .latched => s.sprite.get i.toFin

/-- IORead(a), first match wins (41_driver_bus.md R183). -/
def State.ioRead (s : State) (a : Addr) : Byte :=
  if a = s.cfg.in0Addr then s.in0
  else if a = s.cfg.in1Addr then s.in1
  else if a = s.cfg.cfg0Addr then s.cfg.cfg0Value
  else if a = s.cfg.cfg1Addr then s.cfg.cfg1Value
  else if inSpriteBlock s.cfg a then s.spriteRead (spriteSlot s.cfg a)
  else Config.openBus

/-- Sprite latch write: the byte verbatim into its slot (41_driver_bus.md R186). -/
def State.latchSprite (s : State) (i : BitVec 4) (v : Byte) : State :=
  s.setSprite (s.sprite.set i.toNat v i.isLt)

/-- IOWrite(a, v), first match wins (41_driver_bus.md R184). -/
def State.ioWrite (s : State) (a : Addr) (v : Byte) : State :=
  if a = s.cfg.ieAddr then s.setIe (bit0 v)
  else if a = s.cfg.flipAddr then s.setFlip (bit0 v)
  else if inSpriteBlock s.cfg a then s.latchSprite (spriteSlot s.cfg a) v
  else s

/-- MemRead(a); none is the fault DecodeInvariant(a) (41_driver_bus.md R181, R187). -/
def State.memRead (s : State) (a : Addr) : Option Byte :=
  match decodeAddr s.cfg a with
  | .backed p => if s.checkBacked p a then some (s.asRead a) else none
  | .io => some (s.ioRead a)
  | .unmapped => some Config.openBus

/-- MemWrite(a, v); none is the fault DecodeInvariant(a) (41_driver_bus.md R182, R187). The driver itself discards a
ROM-window write. -/
def State.memWrite (s : State) (a : Addr) (v : Byte) : Option State :=
  match decodeAddr s.cfg a with
  | .backed .rom => if s.checkBacked .rom a then some s else none
  | .backed .vram => if s.checkBacked .vram a then some (s.asWrite a v) else none
  | .backed .cram => if s.checkBacked .cram a then some (s.asWrite a v) else none
  | .backed .wram => if s.checkBacked .wram a then some (s.asWrite a v) else none
  | .io => some (s.ioWrite a v)
  | .unmapped => some s

/-- A bus read as a command: the byte, or the fault (41_driver_bus.md R190). -/
def State.busRead (s : State) (a : Addr) : State :=
  match s.memRead a with
  | some b => s.reply (.byte b)
  | none => s.raiseFault (.decodeInvariant a)

/-- A bus write as a command: Ok, or the fault (41_driver_bus.md R189, R191). -/
def State.busWrite (s : State) (a : Addr) (v : Byte) : State :=
  match s.memWrite a v with
  | some t => t.reply .none
  | none => s.raiseFault (.decodeInvariant a)

/-- A bus read by the CPU core: the byte also goes to the core (41_driver_bus.md R188). Log entry 10. -/
def State.coreRead (s : State) (a : Addr) : State :=
  match s.memRead a with
  | some b => (s.setReceived (s.received ++ [b])).reply (.byte b)
  | none => s.raiseFault (.decodeInvariant a)

/-! ### The driver's lifecycle (42_driver_lifecycle.md) -/

/-- Allocate the driver regions in order; none when one ALLOC fails (42_driver_lifecycle.md R223). -/
def State.allocPlanes (s : State) : List Plane → Option State
  | [] => some s
  | p :: ps =>
    match s.alloc (planeId p) (planeSize s.cfg p) with
    | none => none
    | some t => t.allocPlanes ps

/-- Map the driver windows in order (42_driver_lifecycle.md R223). A MAP cannot fail under WF2 and WF3; where the
configuration is not admitted a failing one changes nothing. Log entry 20. -/
def State.mapPlanes (s : State) : List Plane → State
  | [] => s
  | p :: ps =>
    State.mapPlanes
      ((s.mapRange (planeId p) (planeWindow s.cfg p).lo (planeWindow s.cfg p).hi (planeReadOnly p)).getD s) ps

/-- The driver's default state (42_driver_lifecycle.md R223, 10_state.md R38 column "INIT ok"). -/
def State.deviceDefaults (s : State) : State :=
  (((((s.setIe false).setFlip false).setSprite (Vector.replicate 16 0x00)).setInputs 0xFF 0xFF).setFrameCount
    0).setRomLoaded 0

/-- Copy an image into the ROM region from offset `base` on (42_driver_lifecycle.md R224). Where a test FREE or ALLOC
has left no such bytes, the bytes that exist are stored. DESIGN CHOICE, unsafe. Log entry 12. -/
def State.loadRom (s : State) (base : Nat) (img : List Byte) : State :=
  match s.region (planeId .rom) with
  | some R => s.setRegion (planeId .rom) (some { R with bytes := R.bytes.load base (img.take (R.size - base)) })
  | none => s

/-- Every byte of a region 0x00 (42_driver_lifecycle.md R225). A region that a test FREE has dropped has no byte to
clear. DEDUCED, unsafe. Log entry 12. -/
def State.clearRegion (s : State) (r : RegionId) : State :=
  match s.region r with
  | some R => s.setRegion r (some { R with bytes := Memory.zero })
  | none => s

/-- DriverReset() (42_driver_lifecycle.md R225). -/
def State.driverReset (s : State) : State :=
  ((ramPlanes.foldl (fun t p => t.clearRegion (planeId p)) s).setIe false).setFlip false

/-! ### The interrupt controller and the frame (43_frame_scheduler.md) -/

/-- Pulse(): assert, then clear, the interrupt line (43_frame_scheduler.md R264). -/
def State.pulse (s : State) : State :=
  (s.emit (.irqLine s.cfg.irqLine .assert)).emit (.irqLine s.cfg.irqLine .clear)

/-- The state an IrqLine event drives, none for another event (10_state.md R35). -/
def irqState : CoreCall → Option LineState
  | .irqLine _ st => some st
  | .execute _ => none
  | .cpuReset => none
  | .setReg _ _ => none

/-- The level of the interrupt line: the state of the last IrqLine event, clear if there is none
(10_state.md R35). -/
def lineLevel (es : List CoreCall) : LineState := ((es.filterMap irqState).getLast?).getD .clear

/-- One bus transaction of the core, by rule R188 or R189 (43_frame_scheduler.md R263). -/
def State.perform (s : State) : BusOp → State
  | .read a => s.coreRead a
  | .write a v => s.busWrite a v

/-- The core's bus traffic, in order, ended by a fault (43_frame_scheduler.md R263). -/
def State.runBody (s : State) : List BusOp → State
  | [] => s
  | t :: ts =>
    let u := s.perform t
    if u.fault.isSome then u else u.runBody ts

/-- The `execute` call of a frame: the Execute event, then the core's bus traffic (43_frame_scheduler.md R263 step 1).
BRD and BWR are admitted while it runs (41_driver_bus.md R180, log entry 7). -/
def State.execute (s : State) : State :=
  ((((s.emit (.execute (cycleBudget s.cfg))).setReceived []).setInExecute true).runBody s.draw.body).setInExecute false

/-- The end of a completed frame: the pulse if S.ie = 1, then the frame counter (43_frame_scheduler.md R263 steps 2
and 3). -/
def State.finishFrame (s : State) : State :=
  let t := if s.ie then s.pulse else s
  t.setFrameCount (nextFrame t.cfg.frameCounterBits t.frameCount)

end Sys2Proof.Machine
end

