-- ==== Sys2Proof/Machine/AddressSpace.lean ====
section
/-! DEFINITION. The address space and allocator commands ALLOC, FREE, GBASE, GSIZE, MAP, ASRD, ASWR
(40_address_space_ops.md R141 to R148). -/

namespace Sys2Proof.Machine

/-- ALLOC (40_address_space_ops.md R141). -/
def execAlloc (r : RegionId) (n : BitVec 32) (s : State) : Host.Outcome State Fault Refusal :=
  .next (s.command fun s => s.unlessHalted fun s =>
    match s.alloc r n.toNat with
    | some t => t.reply .none
    | none => s.fail .allocation)

/-- FREE (40_address_space_ops.md R142). -/
def execFree (r : RegionId) (s : State) : Host.Outcome State Fault Refusal :=
  .next (s.command fun s => s.unlessHalted fun s => (s.release r).reply .none)

/-- GBASE (40_address_space_ops.md R143): the handle names the region. -/
def execGbase (r : RegionId) (s : State) : Host.Outcome State Fault Refusal :=
  .next (s.command fun s => s.unlessHalted fun s => s.reply (.handle ((s.region r).map fun _ => r)))

/-- GSIZE (40_address_space_ops.md R144). -/
def execGsize (r : RegionId) (s : State) : Host.Outcome State Fault Refusal :=
  .next (s.command fun s => s.unlessHalted fun s => s.reply (.size ((s.region r).map fun R => R.size)))

/-- MAP (40_address_space_ops.md R145). -/
def execMap (r : RegionId) (lo hi : Addr) (ro : Bool) (s : State) : Host.Outcome State Fault Refusal :=
  .next (s.command fun s => s.unlessHalted fun s =>
    match s.mapRange r lo hi ro with
    | some t => t.reply .none
    | none => s.fail .configuration)

/-- ASRD (40_address_space_ops.md R147). -/
def execAsrd (a : Addr) (s : State) : Host.Outcome State Fault Refusal :=
  .next (s.command fun s => s.unlessHalted fun s => s.reply (.byte (s.asRead a)))

/-- ASWR (40_address_space_ops.md R148). -/
def execAswr (a : Addr) (v : Byte) (s : State) : Host.Outcome State Fault Refusal :=
  .next (s.command fun s => s.unlessHalted fun s => (s.asWrite a v).reply .none)

end Sys2Proof.Machine
end

