-- ==== Sys2Proof/Machine/DriverBus.lean ====
section
/-! DEFINITION. The driver bus commands BRD, BWR, DRD, DWR (41_driver_bus.md R188 to R191). -/

namespace Sys2Proof.Machine

/-- BRD (41_driver_bus.md R188). Outside a RUNF's execute it is refused (R180, log entry 7). -/
def execBrd (a : Addr) (s : State) : Host.Outcome State Fault Refusal :=
  .next (s.command fun s => if s.inExecute then s.coreRead a else s.refuse)

/-- BWR (41_driver_bus.md R189). Outside a RUNF's execute it is refused (R180, log entry 7). -/
def execBwr (a : Addr) (v : Byte) (s : State) : Host.Outcome State Fault Refusal :=
  .next (s.command fun s => if s.inExecute then s.busWrite a v else s.refuse)

/-- DRD (41_driver_bus.md R190). -/
def execDrd (a : Addr) (s : State) : Host.Outcome State Fault Refusal :=
  .next (s.command fun s => s.whenReady fun s => s.busRead a)

/-- DWR (41_driver_bus.md R191). -/
def execDwr (a : Addr) (v : Byte) (s : State) : Host.Outcome State Fault Refusal :=
  .next (s.command fun s => s.whenReady fun s => s.busWrite a v)

end Sys2Proof.Machine
end

