-- ==== Sys2Proof/Machine/Lifecycle.lean ====
section
/-! DEFINITION. The driver's lifecycle commands INIT, LDROM, SHUTDOWN, UPDIN (42_driver_lifecycle.md R223 to R227). -/

namespace Sys2Proof.Machine

/-- INIT (42_driver_lifecycle.md R223). A failed ALLOC leaves the regions and pages as before and halts. -/
def execInit (s : State) : Host.Outcome State Fault Refusal :=
  .next (s.command fun s =>
    if s.sched ≠ .idle ∨ s.ready then s.fail .state
    else
      match s.allocPlanes driverPlanes with
      | none => (s.setSched .haltedError).fail .allocation
      | some t => (((t.mapPlanes driverPlanes).deviceDefaults).setReady true).reply .none)

/-- LDROM (42_driver_lifecycle.md R224): state, then slot, then image length. -/
def execLdrom (k : BitVec 8) (s : State) : Host.Outcome State Fault Refusal :=
  .next (s.command fun s =>
    if s.ready = false ∨ s.sched ≠ .idle then s.fail .state
    else if Config.romSlots ≤ k.toNat then s.fail .configuration
    else if s.image.length ≠ Config.romSlotSize then s.fail .data
    else ((s.loadRom (slotBase k) s.image).setRomLoaded (markSlot s.romLoaded k)).reply .none)

/-- SHUTDOWN (42_driver_lifecycle.md R226). -/
def execShutdown (s : State) : Host.Outcome State Fault Refusal :=
  .next (s.command fun s =>
    if s.ready then
      ((driverPlanes.foldl (fun t p => t.release (planeId p)) (s.setSched .idle)).setReady false).reply .none
    else s.reply .none)

/-- UPDIN (42_driver_lifecycle.md R227). -/
def execUpdin (p0 p1 : Byte) (s : State) : Host.Outcome State Fault Refusal :=
  .next (s.command fun s => s.whenReady fun s => (s.setInputs p0 p1).reply .none)

end Sys2Proof.Machine
end

