-- ==== Sys2Proof/Machine/Scheduler.lean ====
section
/-! DEFINITION. The frame scheduler's commands START, RUNF, RESET, STATS (43_frame_scheduler.md R262 to R266). -/

namespace Sys2Proof.Machine

/-- START (43_frame_scheduler.md R262). -/
def execStart (s : State) : Host.Outcome State Fault Refusal :=
  .next (s.command fun s =>
    if s.sched ≠ .idle ∨ s.ready = false ∨ allLoaded s.romLoaded = false then s.fail .state
    else (s.setSched .running).reply .none)

/-- RUNF (43_frame_scheduler.md R263, R269): the execute call; a fault ends the command with no result, a failure
the core reports gives ExecutionError, else the frame is completed. -/
def execRunf (s : State) : Host.Outcome State Fault Refusal :=
  .next (s.command fun s =>
    if s.sched ≠ .running then s.fail .state
    else
      let t := s.execute
      if t.fault.isSome then t
      else if s.draw.success then t.finishFrame.reply .none
      else t.fail .execution)

/-- RESET (43_frame_scheduler.md R265): DriverReset, then the core's reset, then PC, then SP. -/
def execReset (s : State) : Host.Outcome State Fault Refusal :=
  .next (s.command fun s =>
    if s.sched ≠ .running then s.fail .state
    else
      (((s.driverReset.emit .cpuReset).emit (.setReg s.cfg.regPc Config.resetPc)).emit
        (.setReg s.cfg.regSp (stackTop s.cfg))).reply .none)

/-- STATS (43_frame_scheduler.md R266). -/
def execStats (s : State) : Host.Outcome State Fault Refusal :=
  .next (s.command fun s => s.whenReady fun s => s.reply (.stats s.frameCount s.memoryUsage))

end Sys2Proof.Machine
end

