-- ==== Sys2Proof/Machine/Dispatch.lean ====
section
/-! DEFINITION. The meaning of each command, one arm per constructor of Instr. -/

namespace Sys2Proof.Machine

def exec (i : Instr) (s : State) : Host.Outcome State Fault Refusal :=
  match i with
  | .brd a => Sys2Proof.Machine.execBrd a s
  | .bwr a v => Sys2Proof.Machine.execBwr a v s
  | .drd a => Sys2Proof.Machine.execDrd a s
  | .dwr a v => Sys2Proof.Machine.execDwr a v s
  | .init => Sys2Proof.Machine.execInit s
  | .ldrom k => Sys2Proof.Machine.execLdrom k s
  | .start => Sys2Proof.Machine.execStart s
  | .runf => Sys2Proof.Machine.execRunf s
  | .reset => Sys2Proof.Machine.execReset s
  | .shutdown => Sys2Proof.Machine.execShutdown s
  | .updin p0 p1 => Sys2Proof.Machine.execUpdin p0 p1 s
  | .stats => Sys2Proof.Machine.execStats s
  | .alloc r n => Sys2Proof.Machine.execAlloc r n s
  | .free r => Sys2Proof.Machine.execFree r s
  | .gbase r => Sys2Proof.Machine.execGbase r s
  | .gsize r => Sys2Proof.Machine.execGsize r s
  | .map r lo hi ro => Sys2Proof.Machine.execMap r lo hi ro s
  | .asrd a => Sys2Proof.Machine.execAsrd a s
  | .aswr a v => Sys2Proof.Machine.execAswr a v s

end Sys2Proof.Machine
end

