-- ==== Sys2Proof/Machine/Intake.lean ====
section
/-! DEFINITION. How the block takes the next submitted command: the fetch of this machine (00_scope.md R9,
30_encoding.md R100). Log entry 1. -/

namespace Sys2Proof.Machine

/-- The next submitted command's word, and the state in which that command runs: its out-of-band operands presented,
the submission taken off the list. None where nothing is submitted. -/
def State.intake (s : State) : Option (Cmd64 × State) :=
  match s.pending with
  | [] => none
  | c :: cs => some (c.word, { s with pending := cs, image := c.image, draw := c.draw })

/-- The submission of a bare word: no image, and a core that issues no transaction and reports success. -/
def bareSubmission (w : Cmd64) : Submission := ⟨w, [], ⟨[], true, 0⟩⟩

/-- The state with a submission put first in line. -/
def State.submit (s : State) (c : Submission) : State := { s with pending := c :: s.pending }

end Sys2Proof.Machine
end

