-- ==== Sys2Proof/Machine/Step.lean ====
section
/-! DEFINITION. One step of the block: the next submitted command, run to completion (00_scope.md R7, R9). -/

namespace Sys2Proof.Machine

/-- One step. A configuration that is not admitted has no meaning (00_scope.md R6). With nothing submitted the block
is idle (60_exceptions.md R319). A word that decodes to no command is refused (30_encoding.md R106); any other runs
its command. -/
def step (s : State) : Host.Outcome State Fault Refusal :=
  if admitted s.cfg then
    match s.intake with
    | none => .next s
    | some (w, t) =>
      match decode w with
      | .ok i => exec i t
      | .error _ => .next t.refuse
  else .refused .configNotAdmitted

/-- The state with the command word whose bits are `w` submitted first, so that `step` runs it next. -/
def State.withFetchWord (s : State) (nbits w : Nat) : State :=
  s.submit (bareSubmission (BitVec.ofNat 64 (w % 2 ^ nbits)))

end Sys2Proof.Machine
end

