-- ==== Sys2Proof/Machine/Pseudo.lean ====
section
/-! DEFINITION. The expansions of the pseudo-instructions (30_encoding.md R110). -/

namespace Sys2Proof.Machine

/-- The submission of a command that needs no out-of-band operand. -/
def hostCommand (i : Instr) : Submission := bareSubmission (encode i)

/-- The submission of LDROM `k` with its image (30_encoding.md R108). -/
def romCommand (k : BitVec 8) (img : List Byte) : Submission := { hostCommand (.ldrom k) with image := img }

/-- The submission of RUNF with the core's behaviour written out (30_encoding.md R109). -/
def frameCommand (body : List BusOp) (success : Bool) : Submission :=
  { hostCommand .runf with draw := ⟨body, success, 0⟩ }

/-- The commands a pseudo-instruction outside a RUNF body stands for; a body pseudo-instruction stands for none
(30_encoding.md R110). -/
def pseudoCommands : Pseudo → List Submission
  | .boot i0 i1 i2 i3 =>
    [hostCommand .init, romCommand 0 i0, romCommand 1 i1, romCommand 2 i2, romCommand 3 i3, hostCommand .start,
     hostCommand .reset]
  | .dregion r lo hi size ro => [hostCommand (.alloc r size), hostCommand (.map r lo hi ro)]
  | .ien _ => []
  | .flipw _ => []
  | .spr _ _ _ => []

/-- The bus transactions a pseudo-instruction inside a RUNF body stands for; a host pseudo-instruction stands for none
(30_encoding.md R110). -/
def pseudoTransactions (c : Cfg) : Pseudo → List BusOp
  | .ien v => [.write c.ieAddr v]
  | .flipw v => [.write c.flipAddr v]
  | .spr n e0 e1 =>
    [.write (c.spriteBase + BitVec.ofNat 16 (2 * n)) e0, .write (c.spriteBase + BitVec.ofNat 16 (2 * n + 1)) e1]
  | .boot _ _ _ _ => []
  | .dregion _ _ _ _ _ => []

end Sys2Proof.Machine
end

