-- ==== Sys2Proof/Machine/ReferenceTable.lean ====
section
/-! DEFINITION. The read and write columns of the reference address decoder's table (30_encoding.md R111). ASRead and
ASWrite of a RAM or ROM row stand behind the check of 41_driver_bus.md R187. -/

namespace Sys2Proof.Machine

/-- The column "read" (30_encoding.md R111); none is the fault DecodeInvariant. -/
def State.rowRead (s : State) (a : Addr) : MapRow → Option Byte
  | .rom => if s.checkBacked .rom a then some (s.asRead a) else none
  | .vram => if s.checkBacked .vram a then some (s.asRead a) else none
  | .cram => if s.checkBacked .cram a then some (s.asRead a) else none
  | .wram => if s.checkBacked .wram a then some (s.asRead a) else none
  | .in0Ie => some s.in0
  | .flip => some 0xFF
  | .in1 => some s.in1
  | .sprite =>
    match s.cfg.spriteReadback with
    | .openBus => some 0xFF
    | .latched => some (s.sprite.get (a.extractLsb' 0 4).toFin)
  | .cfg0 => some s.cfg.cfg0Value
  | .cfg1 => some s.cfg.cfg1Value
  | .ioGap => some 0xFF
  | .unmapped => some 0xFF

/-- The column "write" (30_encoding.md R111); none is the fault DecodeInvariant. -/
def State.rowWrite (s : State) (a : Addr) (v : Byte) : MapRow → Option State
  | .rom => if s.checkBacked .rom a then some s else none
  | .vram => if s.checkBacked .vram a then some (s.asWrite a v) else none
  | .cram => if s.checkBacked .cram a then some (s.asWrite a v) else none
  | .wram => if s.checkBacked .wram a then some (s.asWrite a v) else none
  | .in0Ie => some (s.setIe (bit0 v))
  | .flip => some (s.setFlip (bit0 v))
  | .in1 => some s
  | .sprite => some (s.latchSprite (a.extractLsb' 0 4) v)
  | .cfg0 => some s
  | .cfg1 => some s
  | .ioGap => some s
  | .unmapped => some s

end Sys2Proof.Machine
end

