-- ==== Sys2Proof/Safety.lean ====
section
/-! DEFINITION. What claims about runs are stated in: the invariant of the block's states (10_state.md R22, R24, R26, R31,
60_exceptions.md R310), the transitions the scheduler may take (43_frame_scheduler.md R260), and what a command
leaves unchanged. -/

namespace Sys2Proof.Machine

/-- The region table's form: the canonical form, ids 0 to 255. -/
def State.RegionsWf (s : State) : Prop :=
  Sparse.Canonical none s.regions ∧ ∀ e ∈ s.regions, e.1 < 256

/-- The page table's form: the canonical form, page numbers 0 to 255. -/
def State.PagesWf (s : State) : Prop :=
  Sparse.Canonical PageDesc.unmapped s.pages ∧ ∀ e ∈ s.pages, e.1 < 256

/-- Every live region's size is 1 to MAX_REGION_SIZE (10_state.md R24.1), and its bytes are canonical and lie in it. -/
def State.RegionsSized (s : State) : Prop :=
  ∀ r R, s.region r = some R →
    1 ≤ R.size ∧ R.size ≤ Config.maxRegionSize ∧ R.bytes.wf ∧ ∀ e ∈ R.bytes, e.1 < R.size

/-- The page-table invariant (10_state.md R26): a mapped page's region is live and holds the whole page. -/
def State.PagesBacked (s : State) : Prop :=
  ∀ p r off ro, s.page p = .mapped r off ro → ∃ R, s.region r = some R ∧ off + 255 < R.size

/-- The invariant of the states between two commands. -/
structure State.Inv (s : State) : Prop where
  /-- The region table is canonical. -/
  regionsWf : s.RegionsWf
  /-- The page table is canonical. -/
  pagesWf : s.PagesWf
  /-- 10_state.md R24.1, and the canonical form of memory. -/
  regionsSized : s.RegionsSized
  /-- 10_state.md R24.2. -/
  regionCount : s.liveCount ≤ s.cfg.maxRegions
  /-- 10_state.md R26. -/
  pagesBacked : s.PagesBacked
  /-- 10_state.md R22: Running implies ready. -/
  runningReady : s.sched = .running → s.ready = true
  /-- HaltedError is entered only from a state that is not ready (42_driver_lifecycle.md R223). -/
  haltedNotReady : s.sched = .haltedError → s.ready = false
  /-- 10_state.md R31: the frame counter is an unsigned number of FRAME_COUNTER_BITS bits. -/
  frameCountFits : s.frameCount < 2 ^ s.cfg.frameCounterBits
  /-- 43_frame_scheduler.md R264: the line is at `clear` at the end of every command. -/
  lineClear : lineLevel s.cpuOut = .clear
  /-- Between two commands no `execute` call is open (00_scope.md R7). -/
  notInExecute : s.inExecute = false

/-- The checks WF1 to WF9 of 00_scope.md R6, written over addresses and natural numbers. -/
structure Admissible (c : Cfg) : Prop where
  /-- WF1: each window has lo ≤ hi. -/
  ordered : ∀ w ∈ windows c, w.lo.toNat ≤ w.hi.toNat
  /-- WF1: no address lies in two windows. -/
  disjoint : (windows c).Pairwise fun w v => ∀ a, ¬(inWindow w a = true ∧ inWindow v a = true)
  /-- WF2. -/
  pageBounds : ∀ p, (planeWindow c p).lo.toNat % 256 = 0 ∧ (planeWindow c p).hi.toNat % 256 = 255
  /-- WF3. -/
  windowFits : ∀ p, (planeWindow c p).hi.toNat + 1 ≤ (planeWindow c p).lo.toNat + planeSize c p
  /-- WF4. -/
  romLowest : c.winRom.lo = 0x0000 ∧ ∀ w ∈ [c.winVram, c.winCram, c.winWram, c.winIo], c.winRom.hi.toNat < w.lo.toNat
  /-- WF5. -/
  readRegisters : [c.in0Addr, c.in1Addr, c.cfg0Addr, c.cfg1Addr].Nodup ∧
    ∀ a ∈ [c.in0Addr, c.in1Addr, c.cfg0Addr, c.cfg1Addr], c.winIo.lo.toNat ≤ a.toNat ∧ a.toNat ≤ c.winIo.hi.toNat
  /-- WF6. -/
  writeRegisters : c.ieAddr ≠ c.flipAddr ∧
    ∀ a ∈ [c.ieAddr, c.flipAddr], c.winIo.lo.toNat ≤ a.toNat ∧ a.toNat ≤ c.winIo.hi.toNat
  /-- WF7. -/
  spriteBlock : ∀ i, i ≤ 15 → c.winIo.lo.toNat ≤ c.spriteBase.toNat + i ∧ c.spriteBase.toNat + i ≤ c.winIo.hi.toNat ∧
    ∀ a ∈ [c.in0Addr, c.in1Addr, c.cfg0Addr, c.cfg1Addr, c.ieAddr, c.flipAddr], a.toNat ≠ c.spriteBase.toNat + i
  /-- WF8. -/
  budget : 1 ≤ cycleBudget c
  /-- WF9. -/
  sizes : (∀ p, 1 ≤ planeSize c p ∧ planeSize c p ≤ Config.maxRegionSize) ∧ 4 ≤ c.maxRegions

/-- The page of `a` is mapped to driver region `p` at the region's own offset: what CheckBacked asks for
(41_driver_bus.md R187). -/
def State.Backs (s : State) (p : Plane) (a : Addr) (ro : Bool) : Prop :=
  ∃ off, s.page (a.toNat / 256) = .mapped (planeId p) off ro ∧
    off + a.toNat % 256 = a.toNat - (planeWindow s.cfg p).lo.toNat

/-- Where a driver write of `a` stores a region byte: nowhere for a ROM, I/O or unmapped address, else where ASWrite
does (41_driver_bus.md R182). -/
def State.busStoreTarget (s : State) (a : Addr) : Option (RegionId × Nat) :=
  match decodeAddr s.cfg a with
  | .backed .rom => none
  | .backed .vram => s.storeTarget a
  | .backed .cram => s.storeTarget a
  | .backed .wram => s.storeTarget a
  | .io => none
  | .unmapped => none

/-- The frames the core's behaviours `ds` give, one RUNF each; none where one of them does not return Ok
(43_frame_scheduler.md R270). -/
def framesOf (s : State) : List CoreDraw → Option State
  | [] => some s
  | d :: ds =>
    match exec .runf { s with draw := d } with
    | .next t => if t.response = some (.ok .none) then framesOf t ds else none
    | .fault _ => none
    | .refused _ => none

/-- The command a bus transaction of the core is (43_frame_scheduler.md R263: "perform t by rule R188 (BRD) or rule
R189 (BWR)"). -/
def busInstr : BusOp → Instr
  | .read a => .brd a
  | .write a v => .bwr a v

/-- Run commands one after the other. -/
def execAll (s : State) : List Instr → Host.Outcome State Fault Refusal
  | [] => .next s
  | i :: is =>
    match exec i s with
    | .next t => execAll t is
    | .fault f => .fault f
    | .refused r => .refused r

/-- The state in which a RUNF's `execute` call begins (43_frame_scheduler.md R263 step 1). -/
def frameStart (s : State) : State :=
  { s with cpuOut := s.cpuOut ++ [.execute (cycleBudget s.cfg)], received := [], inExecute := true }

/-- An Execute event. -/
def isExecute : CoreCall → Bool
  | .execute _ => true
  | .irqLine _ _ => false
  | .cpuReset => false
  | .setReg _ _ => false

/-- The scheduler's state after command `i` is the one before, or the change is a row of 43_frame_scheduler.md R260. -/
def schedMay (i : Instr) (s t : State) : Prop :=
  t.sched = s.sched ∨
  (i = .init ∧ s.sched = .idle ∧ t.sched = .haltedError ∧ t.response = some (.err .allocation)) ∨
  (i = .start ∧ s.sched = .idle ∧ s.ready = true ∧ s.romLoaded = 0b1111 ∧ t.sched = .running) ∨
  (i = .shutdown ∧ s.sched = .running ∧ s.ready = true ∧ t.sched = .idle ∧ t.ready = false)

end Sys2Proof.Machine
end

