-- ==== Sys2Proof/Certificates/Slice0/Obligations.lean ====
section
/-! DEFINITION. The statements for the provers. -/

open Sys2Proof Sys2Proof.Machine

/-! ### Encoding (30_encoding.md) -/

/-- Decoding an encoded command gives it back, for every command and every operand (30_encoding.md R102, R103). -/
def Obligations.DecodeOfEncodeIsTheInstruction : Prop := ∀ i : Instr, decode (encode i) = .ok i

/-- The decoder accepts exactly the words that match a row of the opcode table under its mask, and reads the row's
fields (30_encoding.md R102 to R104). -/
def Obligations.DecodeAcceptsExactlyTheOpcodeTable : Prop :=
  ∀ (w : Cmd64) (i : Instr), decode w = .ok i ↔
    ∃ o : Opcode, w &&& o.matchMask.2 = o.matchMask.1 ∧ o.instr (Fields.ofWord w) = i

/-- A decoded command encodes to the word it was read from: every word has one meaning and every meaning one word
(30_encoding.md R104, R107). -/
def Obligations.EncodeOfDecodeIsTheWord : Prop := ∀ (w : Cmd64) (i : Instr), decode w = .ok i → encode i = w

/-- Words written out in 95_test_vectors.md section 2.1 and part 3 decode as listed there, one of each family, and
the refused ones are refused. -/
def Obligations.SpecWordsDecodeAsListed : Prop :=
  decode 0x0100500000000000 = .ok (.brd 0x5000) ∧ decode 0x02004C0000000055 = .ok (.bwr 0x4C00 0x55) ∧
  decode 0x160000000000BFEF = .ok (.updin 0xEF 0xBF) ∧ decode 0x1104000000000000 = .ok (.ldrom 4) ∧
  decode 0x1300000000000000 = .ok .runf ∧ decode 0x2005000000000200 = .ok (.alloc 5 0x200) ∧
  decode 0x2405800081FF0001 = .ok (.map 5 0x8000 0x81FF true) ∧
  decode 0x0200500000000101 = .error (.reservedBits 0x02) ∧ decode 0x2405800081FF0002 = .error (.reservedBits 0x24) ∧
  decode 0x2700000000000000 = .error (.unassignedOpcode 0x27)

/-- The response word of 30_encoding.md R101: the status code 0x00 to 0x05 in r[63:56] with no value beside an error,
and for each kind of value its place in r[55:0]. STATS's memory usage saturates at 0xFFFFFF in the word, and a frame
count that 32 bits hold stands in r[31:0]; of a wider one nothing is stated there (log entry 23). -/
def Obligations.ResponseWordHoldsStatusAndValue : Prop :=
  responseWord (.ok .none) = 0x0000000000000000 ∧ responseWord (.err .allocation) = 0x0100000000000000 ∧
  responseWord (.err .configuration) = 0x0200000000000000 ∧ responseWord (.err .state) = 0x0300000000000000 ∧
  responseWord (.err .data) = 0x0400000000000000 ∧ responseWord (.err .execution) = 0x0500000000000000 ∧
  (∀ b : Byte, responseWord (.ok (.byte b)) = b.setWidth 64) ∧
  responseWord (.ok (.handle none)) = 0 ∧
  (∀ r : RegionId, (responseWord (.ok (.handle (some r)))).toNat = 0x100 + r.toNat) ∧
  responseWord (.ok (.size none)) = 0 ∧
  (∀ n : Nat, n < 2 ^ 32 → (responseWord (.ok (.size (some n)))).toNat = 2 ^ 32 + n) ∧
  (∀ f n : Nat,
    (responseWord (.ok (.stats f n))).toNat / 2 ^ 32 = (if n ≤ 0xFFFFFF then n else 0xFFFFFF) ∧
    (f < 2 ^ 32 → (responseWord (.ok (.stats f n))).toNat % 2 ^ 32 = f))

/-! ### One step -/

/-- A step takes the first submitted command: where its word decodes to `i`, the step is exec of `i` in the state that
presents the command's image and core behaviour and no longer lists the command (log entry 1). -/
def Obligations.StepRunsTheSubmittedCommand : Prop :=
  ∀ (s : State) (c : Submission) (cs : List Submission) (i : Instr),
    admitted s.cfg = true → s.pending = c :: cs → decode c.word = .ok i →
    step s = exec i { s with pending := cs, image := c.image, draw := c.draw }

/-- A submitted word that matches no row of the opcode table sets S.refused and changes nothing else of the block
(30_encoding.md R106). That the refusal is a next state without a response is the model's inference (log entry 8);
that the submission is taken off the list and its image and core behaviour presented is its choice (log entry 1). -/
def Obligations.InvalidWordIsRefused : Prop :=
  ∀ (s : State) (c : Submission) (cs : List Submission),
    admitted s.cfg = true → s.pending = c :: cs → (∀ o : Opcode, c.word &&& o.matchMask.2 ≠ o.matchMask.1) →
    step s = .next { s with
      pending := cs, image := c.image, draw := c.draw, refused := true, response := none }

/-- Between commands the block is idle: with nothing submitted a step changes nothing (60_exceptions.md R319, log
entry 1). -/
def Obligations.NothingSubmittedChangesNothing : Prop :=
  ∀ s : State, admitted s.cfg = true → s.pending = [] → step s = .next s

/-- A step is refused where the configuration fails a check of 00_scope.md R6, and the reference configuration passes all
nine checks. That this is exactly when a step stops, since an invalid word and a fault give next states, is the model's
inference and choice (log entries 2, 8 and 9). -/
def Obligations.ExactlyInadmissibleConfigurationsAreRefused : Prop :=
  (∀ s : State,
    (step s = .refused .configNotAdmitted ↔ ¬ Admissible s.cfg) ∧ (Admissible s.cfg → ∃ t, step s = .next t)) ∧
  Admissible Config.reference

/-- Every command, in every state, gives a new state (00_scope.md R9); it may have no result, as where it faults
(60_exceptions.md R306). That a command in a faulted state, and BRD or BWR outside a RUNF's execute, is refused by a next
state with no result is the model's inference and choice (log entries 7, 8 and 9). -/
def Obligations.EveryCommandAnswersANextState : Prop := ∀ (i : Instr) (s : State), ∃ t, exec i s = .next t

/-- In a faulted state every command is refused, and nothing of the block changes but the refused flag
(60_exceptions.md R306; that the flag is set is the model's choice, log entry 9). -/
def Obligations.FaultedBlockRefusesEveryCommand : Prop :=
  ∀ (i : Instr) (s : State), s.fault ≠ none → exec i s = .next { s with refused := true, response := none }

/-! ### The address decoder (20_memory.md, 30_encoding.md R111) -/

/-- Under an admitted configuration an address has the target of the one window that contains it, and is unmapped
where none does (20_memory.md R63). -/
def Obligations.EachAddressHasTheTargetOfItsWindow : Prop :=
  ∀ (c : Cfg) (a : Addr), admitted c = true →
    (∀ p, decodeAddr c a = .backed p ↔ inWindow (planeWindow c p) a = true) ∧
    (decodeAddr c a = .io ↔ inWindow c.winIo a = true) ∧
    (decodeAddr c a = .unmapped ↔ ∀ w ∈ windows c, inWindow w a = false) ∧
    ((windows c).filter fun w => inWindow w a).length ≤ 1

/-- With the reference addresses, the driver's read and write of every address are those of the first matching row of
the table of 30_encoding.md R111. -/
def Obligations.ReferenceTableIsTheDispatch : Prop :=
  ∀ (s : State) (a : Addr) (v : Byte), usesReferenceMap s.cfg →
    s.memRead a = s.rowRead a (mapLookup a) ∧ s.memWrite a v = s.rowWrite a v (mapLookup a)

/-- An unmapped address reads 0xFF, and a write there changes nothing (20_memory.md R67). -/
def Obligations.UnmappedAddressIsOpenBus : Prop :=
  ∀ (s : State) (a : Addr) (v : Byte), (∀ w ∈ windows s.cfg, inWindow w a = false) →
    s.memRead a = some 0xFF ∧ s.memWrite a v = some s

/-- The budget is the floor of CLOCK_HZ / REFRESH_HZ as rational numbers (43_frame_scheduler.md R261). -/
def Obligations.CycleBudgetIsTheFloorOfTheQuotient : Prop :=
  ∀ c : Cfg, (cycleBudget c : ℤ) =
    ⌊((c.clockHz.num : ℚ) / c.clockHz.den) / ((c.refreshHz.num : ℚ) / c.refreshHz.den)⌋

/-! ### The driver bus (41_driver_bus.md) -/

/-- A read that the driver serves completes: DRD answers the byte, BRD gives it to the core; nothing else changes
(41_driver_bus.md R188, R190, R192). -/
def Obligations.BusReadsAnswerTheByteAndChangeNothing : Prop :=
  ∀ (s : State) (a : Addr) (b : Byte), s.fault = none → s.memRead a = some b →
    (s.inExecute = true → exec (.brd a) s = .next { s with
      received := s.received ++ [b], response := some (.ok (.byte b)) }) ∧
    (s.ready = true → s.sched ≠ .haltedError → exec (.drd a) s = .next { s with response := some (.ok (.byte b)) })

/-- A write that the driver serves completes with Ok: BWR and DWR give the state MemWrite gives
(41_driver_bus.md R189, R191). -/
def Obligations.BusWritesApplyTheDriverWrite : Prop :=
  ∀ (s t : State) (a : Addr) (v : Byte), s.fault = none → s.memWrite a v = some t →
    (s.inExecute = true → exec (.bwr a v) s = .next { t with response := some (.ok .none) }) ∧
    (s.ready = true → s.sched ≠ .haltedError → exec (.dwr a v) s = .next { t with response := some (.ok .none) })

/-- Where a RAM or ROM window's page is mapped to its own region at its own offset, a read of the window gives the
region's byte at a − lo, so a fault is impossible (41_driver_bus.md R181, R187). -/
def Obligations.WindowReadGivesTheRegionByte : Prop :=
  ∀ (s : State) (p : Plane) (a : Addr) (ro : Bool) (b : Byte),
    decodeAddr s.cfg a = .backed p → s.Backs p a ro →
    s.byteAt (planeId p) (a.toNat - (planeWindow s.cfg p).lo.toNat) = some b → s.memRead a = some b

/-- A bus access to a RAM or ROM window whose page is not mapped to its own region at its own offset records
DecodeInvariant(a), has no result and changes nothing else, for each of the four commands (41_driver_bus.md R187,
60_exceptions.md R306). -/
def Obligations.UnbackedWindowAccessFaults : Prop :=
  ∀ (s : State) (p : Plane) (a : Addr) (v : Byte),
    s.fault = none → decodeAddr s.cfg a = .backed p → (∀ ro, ¬ s.Backs p a ro) →
    (s.inExecute = true →
      exec (.brd a) s = .next { s with fault := some (.decodeInvariant a), response := none } ∧
      exec (.bwr a v) s = .next { s with fault := some (.decodeInvariant a), response := none }) ∧
    (s.ready = true → s.sched ≠ .haltedError →
      exec (.drd a) s = .next { s with fault := some (.decodeInvariant a), response := none } ∧
      exec (.dwr a v) s = .next { s with fault := some (.decodeInvariant a), response := none })

/-- Reads of the I/O window (41_driver_bus.md R183, R185): each register at its address, the sprite slots by
SPRITE_READBACK, 0xFF everywhere else in the window. -/
def Obligations.IoReadsServeTheRegisters : Prop :=
  ∀ s : State, admitted s.cfg = true →
    s.memRead s.cfg.in0Addr = some s.in0 ∧ s.memRead s.cfg.in1Addr = some s.in1 ∧
    s.memRead s.cfg.cfg0Addr = some s.cfg.cfg0Value ∧ s.memRead s.cfg.cfg1Addr = some s.cfg.cfg1Value ∧
    (∀ i : Fin 16, s.memRead (s.cfg.spriteBase + BitVec.ofNat 16 i.val) =
      some (if s.cfg.spriteReadback = .latched then s.sprite.get i else 0xFF)) ∧
    (∀ a : Addr, inWindow s.cfg.winIo a = true →
      a ∉ [s.cfg.in0Addr, s.cfg.in1Addr, s.cfg.cfg0Addr, s.cfg.cfg1Addr] →
      (∀ i : Fin 16, a ≠ s.cfg.spriteBase + BitVec.ofNat 16 i.val) → s.memRead a = some 0xFF)

/-- Writes of the I/O window (41_driver_bus.md R184, R186): IE_ADDR and FLIP_ADDR store bit 0, a sprite slot the byte
verbatim and no other slot, and every other address of the window discards the write. -/
def Obligations.IoWritesStoreTheirTarget : Prop :=
  ∀ (s : State) (v : Byte), admitted s.cfg = true →
    s.memWrite s.cfg.ieAddr v = some { s with ie := v.getLsbD 0 } ∧
    s.memWrite s.cfg.flipAddr v = some { s with flip := v.getLsbD 0 } ∧
    (∀ i : Fin 16, s.memWrite (s.cfg.spriteBase + BitVec.ofNat 16 i.val) v =
      some { s with sprite := s.sprite.set i.val v i.isLt }) ∧
    (∀ a : Addr, inWindow s.cfg.winIo a = true → a ≠ s.cfg.ieAddr → a ≠ s.cfg.flipAddr →
      (∀ i : Fin 16, a ≠ s.cfg.spriteBase + BitVec.ofNat 16 i.val) → s.memWrite a v = some s)

/-- 41_driver_bus.md R193: a BWR to a ROM-window address that does not fault changes no later read of that address,
nor of any other; and MemWrite of IE_ADDR or FLIP_ADDR leaves the flag v AND 1. -/
def Obligations.RomWritesChangeNoReadAndFlagsKeepBitZero : Prop :=
  (∀ (s t : State) (a b : Addr) (v : Byte), decodeAddr s.cfg a = .backed .rom → s.fault = none →
    exec (.bwr a v) s = .next t → t.fault = none → t.memRead b = s.memRead b) ∧
  (∀ (s t : State) (v : Byte), admitted s.cfg = true → s.memWrite s.cfg.ieAddr v = some t →
    (BitVec.ofBool t.ie).setWidth 8 = v &&& 1) ∧
  (∀ (s t : State) (v : Byte), admitted s.cfg = true → s.memWrite s.cfg.flipAddr v = some t →
    (BitVec.ofBool t.flip).setWidth 8 = v &&& 1)

/-- A write to a backed, writable RAM window stores exactly one byte of the window's own region, which the next read
of the address returns; nothing else of the state changes (41_driver_bus.md R182, 20_memory.md R73, R345). -/
def Obligations.RamWriteStoresExactlyOneByte : Prop :=
  ∀ (s : State) (p : Plane) (a : Addr) (v b : Byte), p ≠ .rom →
    decodeAddr s.cfg a = .backed p → s.Backs p a false →
    s.byteAt (planeId p) (a.toNat - (planeWindow s.cfg p).lo.toNat) = some b →
    ∃ t, s.memWrite a v = some t ∧ t = { s with regions := t.regions } ∧
      t.byteAt (planeId p) (a.toNat - (planeWindow s.cfg p).lo.toNat) = some v ∧
      (∀ r i, (r, i) ≠ (planeId p, a.toNat - (planeWindow s.cfg p).lo.toNat) → t.byteAt r i = s.byteAt r i) ∧
      t.memRead a = some v

/-- Frame of the storing commands BWR, DWR and ASWR: every region byte but the one byte stored to is unchanged, and so
is every field that the write does not reach. A bus write to a ROM, I/O or unmapped address stores no region byte. -/
def Obligations.StoringCommandsLeaveEverythingElse : Prop :=
  ∀ (i : Instr) (s t : State) (a : Addr) (v : Byte),
    i = .bwr a v ∨ i = .dwr a v ∨ i = .aswr a v → exec i s = .next t →
    (i ≠ .aswr a v → ∀ r j, s.busStoreTarget a ≠ some (r, j) → t.byteAt r j = s.byteAt r j) ∧
    (i = .aswr a v → ∀ r j, s.storeTarget a ≠ some (r, j) → t.byteAt r j = s.byteAt r j) ∧
    (∀ r, (t.region r).map Region.size = (s.region r).map Region.size) ∧
    t.pages = s.pages ∧ t.sched = s.sched ∧ t.ready = s.ready ∧ t.in0 = s.in0 ∧ t.in1 = s.in1 ∧
    t.frameCount = s.frameCount ∧ t.romLoaded = s.romLoaded ∧ t.cpuOut = s.cpuOut ∧ t.cfg = s.cfg ∧
    t.pending = s.pending ∧ t.inExecute = s.inExecute ∧ t.received = s.received ∧ t.image = s.image ∧
    t.draw = s.draw ∧
    (i = .aswr a v ∨ decodeAddr s.cfg a ≠ .io → t.ie = s.ie ∧ t.flip = s.flip ∧ t.sprite = s.sprite)

/-- Who may use the bus (41_driver_bus.md R180): outside a RUNF's execute BRD and BWR are refused (log entry 7), and
DRD and DWR raise StateError and change nothing unless the driver is ready and not in HaltedError. -/
def Obligations.BusCommandsOutsideTheirStateHaveNoEffect : Prop :=
  ∀ (s : State) (a : Addr) (v : Byte), s.fault = none →
    (s.inExecute = false →
      exec (.brd a) s = .next { s with refused := true, response := none } ∧
      exec (.bwr a v) s = .next { s with refused := true, response := none }) ∧
    (s.ready = false ∨ s.sched = .haltedError →
      exec (.drd a) s = .next { s with response := some (.err .state) } ∧
      exec (.dwr a v) s = .next { s with response := some (.err .state) })

/-! ### The address space and the allocator (40_address_space_ops.md) -/

/-- ALLOC (40_address_space_ops.md R141): StateError in HaltedError; AllocationError, with no change, for a live id, a
size of 0 or above 4 MiB, or a full region count; else the region is live with `n` bytes of 0x00 and nothing else
changes. -/
def Obligations.AllocMakesAZeroedRegionOrNothing : Prop :=
  ∀ (s : State) (r : RegionId) (n : BitVec 32), s.fault = none →
    (s.sched = .haltedError → exec (.alloc r n) s = .next { s with response := some (.err .state) }) ∧
    (s.sched ≠ .haltedError →
      s.region r ≠ none ∨ n = 0 ∨ 4194304 < n.toNat ∨ s.cfg.maxRegions ≤ s.liveCount →
      exec (.alloc r n) s = .next { s with response := some (.err .allocation) }) ∧
    (s.sched ≠ .haltedError → s.region r = none → n ≠ 0 → n.toNat ≤ 4194304 → s.liveCount < s.cfg.maxRegions →
      ∃ t, exec (.alloc r n) s = .next t ∧
        t = { s with regions := t.regions, response := some (.ok .none) } ∧
        (t.region r).map Region.size = some n.toNat ∧ (t.region r).map Region.name = some "" ∧
        (∀ i, i < n.toNat → t.byteAt r i = some 0x00) ∧ (∀ q, q ≠ r → t.region q = s.region q))

/-- FREE (40_address_space_ops.md R142): StateError in HaltedError; Ok and no change for a region that is not live;
else the region is gone, the pages that referred to it are Unmapped, and nothing else changes. -/
def Obligations.FreeDropsTheRegionAndItsPages : Prop :=
  ∀ (s : State) (r : RegionId), s.fault = none →
    (s.sched = .haltedError → exec (.free r) s = .next { s with response := some (.err .state) }) ∧
    (s.sched ≠ .haltedError → s.region r = none →
      exec (.free r) s = .next { s with response := some (.ok .none) }) ∧
    (s.sched ≠ .haltedError → s.region r ≠ none →
      ∃ t, exec (.free r) s = .next t ∧
        t = { s with regions := t.regions, pages := t.pages, response := some (.ok .none) } ∧
        t.region r = none ∧ (∀ q, q ≠ r → t.region q = s.region q) ∧
        (∀ p off ro, s.page p = .mapped r off ro → t.page p = .unmapped) ∧
        (∀ p, (∀ off ro, s.page p ≠ .mapped r off ro) → t.page p = s.page p))

/-- GBASE (40_address_space_ops.md R143): StateError in HaltedError, else the handle of a live region, encoded
0x100 OR r, or None, encoded 0. Nothing changes. -/
def Obligations.GbaseAnswersTheHandle : Prop :=
  ∀ (s : State) (r : RegionId), s.fault = none →
    (s.sched = .haltedError → exec (.gbase r) s = .next { s with response := some (.err .state) }) ∧
    (s.sched ≠ .haltedError → s.region r = none →
      exec (.gbase r) s = .next { s with response := some (.ok (.handle none)) }) ∧
    (s.sched ≠ .haltedError → s.region r ≠ none →
      exec (.gbase r) s = .next { s with response := some (.ok (.handle (some r))) }) ∧
    responseWord (.ok (.handle none)) = 0 ∧ responseWord (.ok (.handle (some r))) = 0x100 ||| r.setWidth 64

/-- GSIZE (40_address_space_ops.md R144): StateError in HaltedError, else the size of a live region, or None. Nothing
changes. -/
def Obligations.GsizeAnswersTheSize : Prop :=
  ∀ (s : State) (r : RegionId), s.fault = none →
    (s.sched = .haltedError → exec (.gsize r) s = .next { s with response := some (.err .state) }) ∧
    (s.sched ≠ .haltedError → s.region r = none →
      exec (.gsize r) s = .next { s with response := some (.ok (.size none)) }) ∧
    (∀ R, s.sched ≠ .haltedError → s.region r = some R →
      exec (.gsize r) s = .next { s with response := some (.ok (.size (some R.size))) })

/-- MAP (40_address_space_ops.md R145): StateError in HaltedError; ConfigurationError, with no page changed, for a
region that is not live, a misaligned bound, s > e or a range longer than the region; else page p of the range is
Mapped(r, p·256 − s, ro) and nothing else changes. -/
def Obligations.MapInstallsTheRangeOrNothing : Prop :=
  ∀ (s : State) (r : RegionId) (lo hi : Addr) (ro : Bool), s.fault = none →
    (s.sched = .haltedError → exec (.map r lo hi ro) s = .next { s with response := some (.err .state) }) ∧
    (s.sched ≠ .haltedError →
      s.region r = none ∨ lo.toNat % 256 ≠ 0 ∨ hi.toNat % 256 ≠ 255 ∨ hi.toNat < lo.toNat ∨
        (∃ R, s.region r = some R ∧ R.size < hi.toNat - lo.toNat + 1) →
      exec (.map r lo hi ro) s = .next { s with response := some (.err .configuration) }) ∧
    (∀ R, s.sched ≠ .haltedError → s.region r = some R → lo.toNat % 256 = 0 → hi.toNat % 256 = 255 →
      lo.toNat ≤ hi.toNat → hi.toNat - lo.toNat + 1 ≤ R.size →
      ∃ t, exec (.map r lo hi ro) s = .next t ∧
        t = { s with pages := t.pages, response := some (.ok .none) } ∧
        ∀ p, t.page p =
          if lo.toNat / 256 ≤ p ∧ p ≤ hi.toNat / 256 then .mapped r (p * 256 - lo.toNat) ro else s.page p)

/-- ASRD (40_address_space_ops.md R147, R146): StateError in HaltedError, else 0xFF on an Unmapped page and the region's
byte on a mapped one, read-only or not. Nothing changes. -/
def Obligations.AsrdReadsThroughThePageTable : Prop :=
  ∀ (s : State) (a : Addr), s.fault = none →
    (s.sched = .haltedError → exec (.asrd a) s = .next { s with response := some (.err .state) }) ∧
    (s.sched ≠ .haltedError → s.page (a.toNat / 256) = .unmapped →
      exec (.asrd a) s = .next { s with response := some (.ok (.byte 0xFF)) }) ∧
    (∀ r off ro b, s.sched ≠ .haltedError → s.page (a.toNat / 256) = .mapped r off ro →
      s.byteAt r (off + a.toNat % 256) = some b →
      exec (.asrd a) s = .next { s with response := some (.ok (.byte b)) })

/-- ASWR (40_address_space_ops.md R148, R146): StateError in HaltedError; Ok and no change on an Unmapped or read-only
page; else Ok, the one region byte is `v`, every other byte is unchanged, and every address that translates to that
byte reads `v`. -/
def Obligations.AswrStoresThroughThePageTable : Prop :=
  ∀ (s : State) (a : Addr) (v : Byte), s.fault = none →
    (s.sched = .haltedError → exec (.aswr a v) s = .next { s with response := some (.err .state) }) ∧
    (s.sched ≠ .haltedError →
      s.page (a.toNat / 256) = .unmapped ∨ (∃ r off, s.page (a.toNat / 256) = .mapped r off true) →
      exec (.aswr a v) s = .next { s with response := some (.ok .none) }) ∧
    (∀ r off, s.sched ≠ .haltedError → s.page (a.toNat / 256) = .mapped r off false →
      s.byteAt r (off + a.toNat % 256) ≠ none →
      ∃ t, exec (.aswr a v) s = .next t ∧
        t = { s with regions := t.regions, response := some (.ok .none) } ∧
        t.byteAt r (off + a.toNat % 256) = some v ∧
        (∀ q j, (q, j) ≠ (r, off + a.toNat % 256) → t.byteAt q j = s.byteAt q j) ∧
        (∀ (b : Addr) ro off', s.page (b.toNat / 256) = .mapped r off' ro →
          off' + b.toNat % 256 = off + a.toNat % 256 → t.asRead b = v))

/-- In a region table in canonical form, the live count is the number of ids that have a region and the memory usage
the sum of their sizes (40_address_space_ops.md R141, 43_frame_scheduler.md R266). -/
def Obligations.LiveCountAndUsageAreOverTheLiveIds : Prop :=
  ∀ s : State, s.RegionsWf →
    s.liveCount = (Finset.univ.filter fun r : RegionId => (s.region r).isSome = true).card ∧
    s.memoryUsage = ∑ r : RegionId, ((s.region r).map Region.size).getD 0

/-! ### The driver's lifecycle (42_driver_lifecycle.md) -/

/-- INIT that succeeds (42_driver_lifecycle.md R223, 10_state.md R38 column "INIT ok"): the four regions live with every
byte 0x00, every address of the four windows backed by its own region, the other pages and regions unchanged, and the
device registers at their defaults. -/
def Obligations.InitAllocatesAndMapsTheDriver : Prop :=
  ∀ s : State, admitted s.cfg = true → s.fault = none → s.sched = .idle → s.ready = false →
    (∀ p, s.region (planeId p) = none) → s.liveCount + 4 ≤ s.cfg.maxRegions →
    ∃ t, exec .init s = .next t ∧
      t = { s with
        ready := true, regions := t.regions, pages := t.pages, ie := false, flip := false,
        sprite := Vector.replicate 16 0x00, in0 := 0xFF, in1 := 0xFF, frameCount := 0, romLoaded := 0,
        response := some (.ok .none) } ∧
      (∀ p, (t.region (planeId p)).map Region.size = some (planeSize s.cfg p) ∧
        ∀ i, i < planeSize s.cfg p → t.byteAt (planeId p) i = some 0x00) ∧
      (∀ r, (∀ p, r ≠ planeId p) → t.region r = s.region r) ∧
      (∀ p a, inWindow (planeWindow s.cfg p) a = true → t.Backs p a (planeReadOnly p)) ∧
      (∀ q, (∀ p, ¬((planeWindow s.cfg p).lo.toNat / 256 ≤ q ∧ q ≤ (planeWindow s.cfg p).hi.toNat / 256)) →
        t.page q = s.page q)

/-- INIT that fails (42_driver_lifecycle.md R223): where a driver id is live or four more regions are too many,
AllocationError, HaltedError, and every other field as before; where the scheduler is not Idle or the driver is
ready, StateError and no change. -/
def Obligations.InitFailureRollsBackAndHalts : Prop :=
  ∀ s : State, s.fault = none →
    (s.sched ≠ .idle ∨ s.ready = true → exec .init s = .next { s with response := some (.err .state) }) ∧
    (admitted s.cfg = true → s.sched = .idle → s.ready = false →
      (∃ p, s.region (planeId p) ≠ none) ∨ s.cfg.maxRegions < s.liveCount + 4 →
      exec .init s = .next { s with sched := .haltedError, response := some (.err .allocation) })

/-- LDROM that succeeds (42_driver_lifecycle.md R224): the image's bytes at slot k's offset, bit k of rom_loaded, and
nothing else. -/
def Obligations.LdromCopiesTheImageIntoItsSlot : Prop :=
  ∀ (s : State) (k : BitVec 8) (R : Region), s.fault = none → s.ready = true → s.sched = .idle → k.toNat < 4 →
    s.image.length = 4096 → s.region (planeId .rom) = some R → k.toNat * 4096 + 4096 ≤ R.size →
    ∃ t, exec (.ldrom k) s = .next t ∧
      t = { s with regions := t.regions, romLoaded := t.romLoaded, response := some (.ok .none) } ∧
      (∀ i, i < 4096 → t.byteAt (planeId .rom) (k.toNat * 4096 + i) = s.image[i]?) ∧
      (∀ r j, ¬(r = planeId .rom ∧ k.toNat * 4096 ≤ j ∧ j < k.toNat * 4096 + 4096) → t.byteAt r j = s.byteAt r j) ∧
      (∀ r, (t.region r).map Region.size = (s.region r).map Region.size) ∧
      (∀ j, j < 4 → t.romLoaded.getLsbD j = (s.romLoaded.getLsbD j || j == k.toNat))

/-- LDROM that fails (42_driver_lifecycle.md R224, 60_exceptions.md R304, R307): state before slot before length; the
error changes nothing. -/
def Obligations.LdromErrorsChangeNothing : Prop :=
  ∀ (s : State) (k : BitVec 8), s.fault = none →
    (s.ready = false ∨ s.sched ≠ .idle → exec (.ldrom k) s = .next { s with response := some (.err .state) }) ∧
    (s.ready = true → s.sched = .idle → 4 ≤ k.toNat →
      exec (.ldrom k) s = .next { s with response := some (.err .configuration) }) ∧
    (s.ready = true → s.sched = .idle → k.toNat < 4 → s.image.length ≠ 4096 →
      exec (.ldrom k) s = .next { s with response := some (.err .data) })

/-- SHUTDOWN (42_driver_lifecycle.md R226): Ok and no change when the driver is not ready; else, where the page-table
invariant of 10_state.md R26 holds, Idle, not ready, the four driver regions gone, the pages that referred to them
Unmapped, and nothing else changed. That the device registers keep their values, for which 10_state.md R38 shows a dash,
and that a ready state in HaltedError, which no run reaches, goes to Idle, are the model's inference (log entry 21). -/
def Obligations.ShutdownReleasesTheDriver : Prop :=
  ∀ s : State, s.fault = none →
    (s.ready = false → exec .shutdown s = .next { s with response := some (.ok .none) }) ∧
    (s.ready = true → s.PagesBacked →
      ∃ t, exec .shutdown s = .next t ∧
        t = { s with
          sched := .idle, ready := false, regions := t.regions, pages := t.pages, response := some (.ok .none) } ∧
        (∀ p, t.region (planeId p) = none) ∧ (∀ r, (∀ p, r ≠ planeId p) → t.region r = s.region r) ∧
        (∀ q p off ro, s.page q = .mapped (planeId p) off ro → t.page q = .unmapped) ∧
        (∀ q, (∀ p off ro, s.page q ≠ .mapped (planeId p) off ro) → t.page q = s.page q))

/-- UPDIN (42_driver_lifecycle.md R227): the two port bytes and nothing else, or StateError and no change. -/
def Obligations.UpdinStoresTheSnapshot : Prop :=
  ∀ (s : State) (p0 p1 : Byte), s.fault = none →
    (s.ready = false ∨ s.sched = .haltedError →
      exec (.updin p0 p1) s = .next { s with response := some (.err .state) }) ∧
    (s.ready = true → s.sched ≠ .haltedError →
      exec (.updin p0 p1) s = .next { s with in0 := p0, in1 := p1, response := some (.ok .none) })

/-! ### The frame scheduler (43_frame_scheduler.md) -/

/-- START (43_frame_scheduler.md R262): Running and nothing else, or StateError and no change. -/
def Obligations.StartEntersRunning : Prop :=
  ∀ s : State, s.fault = none →
    (s.sched ≠ .idle ∨ s.ready = false ∨ s.romLoaded ≠ 0b1111 →
      exec .start s = .next { s with response := some (.err .state) }) ∧
    (s.sched = .idle → s.ready = true → s.romLoaded = 0b1111 →
      exec .start s = .next { s with sched := .running, response := some (.ok .none) })

/-- RUNF that completes (43_frame_scheduler.md R263, R264): after the core's bus traffic from the frame's start state,
the pulse if S.ie is 1 then, and the frame counter one up mod 2^FRAME_COUNTER_BITS; cpu_out gains
Execute(CYCLE_BUDGET) and the pulse. -/
def Obligations.RunfExecutesThenPulsesThenCounts : Prop :=
  ∀ s : State, s.fault = none → s.sched = .running → s.draw.success = true →
    ((frameStart s).runBody s.draw.body).fault = none →
    ∃ t, exec .runf s = .next t ∧
      t = { (frameStart s).runBody s.draw.body with
        inExecute := false, cpuOut := t.cpuOut, frameCount := (s.frameCount + 1) % 2 ^ s.cfg.frameCounterBits,
        response := some (.ok .none) } ∧
      t.cpuOut = s.cpuOut ++ .execute (cycleBudget s.cfg) ::
        (if ((frameStart s).runBody s.draw.body).ie then
          [.irqLine s.cfg.irqLine .assert, .irqLine s.cfg.irqLine .clear] else [])

/-- RUNF that does not complete (43_frame_scheduler.md R263, R269, 60_exceptions.md R306, R307): StateError and no
change outside Running; a fault in the bus traffic ends it with no result, whatever the core reports; a failure the
core reports gives ExecutionError. In both the Execute event and the writes made stay, and there is no pulse and no
count. -/
def Obligations.RunfFailuresSkipPulseAndCount : Prop :=
  ∀ s : State, s.fault = none →
    (s.sched ≠ .running → exec .runf s = .next { s with response := some (.err .state) }) ∧
    (s.sched = .running → ((frameStart s).runBody s.draw.body).fault ≠ none →
      ∃ t, exec .runf s = .next t ∧ t = { (frameStart s).runBody s.draw.body with inExecute := false } ∧
        t.response = none ∧ t.sched = .running ∧ t.frameCount = s.frameCount ∧
        t.cpuOut = s.cpuOut ++ [.execute (cycleBudget s.cfg)]) ∧
    (s.sched = .running → ((frameStart s).runBody s.draw.body).fault = none → s.draw.success = false →
      ∃ t, exec .runf s = .next t ∧
        t = { (frameStart s).runBody s.draw.body with
          inExecute := false, response := some (.err .execution) } ∧
        t.sched = .running ∧ t.frameCount = s.frameCount ∧
        t.cpuOut = s.cpuOut ++ [.execute (cycleBudget s.cfg)])

/-- The core's bus traffic is its BRD and BWR commands, one at a time, in the order it issues them
(43_frame_scheduler.md R263, 20_memory.md R73). -/
def Obligations.FrameTrafficIsBrdAndBwrInOrder : Prop :=
  ∀ (s : State) (ops : List BusOp), s.fault = none → s.inExecute = true → (s.runBody ops).fault = none →
    execAll s (ops.map busInstr) = .next (s.runBody ops)

/-- While every address of the four windows is backed by its own region, no behaviour of the core faults a frame: RUNF
answers Ok where the core reports success and ExecutionError where it does not (41_driver_bus.md R187,
43_frame_scheduler.md R263). -/
def Obligations.BackedWindowsMeanNoFrameFaults : Prop :=
  ∀ s : State, s.fault = none → s.sched = .running →
    (∀ p a, decodeAddr s.cfg a = .backed p → ∃ ro, s.Backs p a ro) →
    ∃ t, exec .runf s = .next t ∧ t.fault = none ∧
      t.response = some (if s.draw.success then .ok .none else .err .execution)

/-- Whatever the core does, a RUNF leaves the page table, the regions that are live and their sizes, every ROM byte, the
inputs, the loaded slots and the scheduler's state as they were (43_frame_scheduler.md R269,
70_reset_and_hazards.md R346). -/
def Obligations.RunfLeavesTheAddressSpaceAndRom : Prop :=
  ∀ s t : State, exec .runf s = .next t →
    t.pages = s.pages ∧ (∀ r, (t.region r).map Region.size = (s.region r).map Region.size) ∧
    t.region (planeId .rom) = s.region (planeId .rom) ∧ t.in0 = s.in0 ∧ t.in1 = s.in1 ∧
    t.romLoaded = s.romLoaded ∧ t.sched = s.sched ∧ t.ready = s.ready ∧ t.cfg = s.cfg ∧
    t.pending = s.pending ∧ t.image = s.image ∧ t.draw = s.draw

/-- The cycle count the core reports has no effect: two runs of a frame that differ only in it end alike
(70_reset_and_hazards.md R350). -/
def Obligations.ReportedCyclesHaveNoEffect : Prop :=
  ∀ (s t : State) (n : Nat), exec .runf s = .next t →
    exec .runf { s with draw := { s.draw with cycles := n } } = .next { t with draw := { t.draw with cycles := n } }

/-- N frames that return Ok, whatever the core does in each, count N mod 2^FRAME_COUNTER_BITS and make N Execute calls,
each with the same budget (43_frame_scheduler.md R270). The premise is the counter's clause of `State.Inv`. -/
def Obligations.FramesCountAndExecuteOnceEach : Prop :=
  ∀ (ds : List CoreDraw) (s t : State), s.frameCount < 2 ^ s.cfg.frameCounterBits → framesOf s ds = some t →
    t.frameCount = (s.frameCount + ds.length) % 2 ^ s.cfg.frameCounterBits ∧
    t.cpuOut.filter isExecute =
      s.cpuOut.filter isExecute ++ List.replicate ds.length (.execute (cycleBudget s.cfg))

/-- RESET (43_frame_scheduler.md R265, 42_driver_lifecycle.md R225): StateError and no change outside Running; else the
RAM regions' bytes are 0x00, ie and flip are 0, the three calls to the core are made in order, and nothing else
changes. That it completes too where a test FREE has dropped a RAM region is the model's choice, log entry 12. -/
def Obligations.ResetClearsRamAndResynchronisesTheCore : Prop :=
  ∀ s : State, s.fault = none →
    (s.sched ≠ .running → exec .reset s = .next { s with response := some (.err .state) }) ∧
    (s.sched = .running →
      ∃ t, exec .reset s = .next t ∧
        t = { s with
          regions := t.regions, ie := false, flip := false, response := some (.ok .none),
          cpuOut := s.cpuOut ++ [.cpuReset, .setReg s.cfg.regPc 0x0000, .setReg s.cfg.regSp (s.cfg.winWram.hi + 1)] } ∧
        (∀ p, p ≠ .rom → ∀ i, t.byteAt (planeId p) i = (s.byteAt (planeId p) i).map fun _ => 0x00) ∧
        (∀ r, (∀ p, p ≠ .rom → r ≠ planeId p) → t.region r = s.region r))

/-- STATS (43_frame_scheduler.md R266): the frame count and the exact memory usage, or StateError; nothing changes. -/
def Obligations.StatsReportsFrameCountAndUsage : Prop :=
  ∀ s : State, s.fault = none →
    (s.ready = false ∨ s.sched = .haltedError → exec .stats s = .next { s with response := some (.err .state) }) ∧
    (s.ready = true → s.sched ≠ .haltedError →
      exec .stats s = .next { s with
        response := some (.ok (.stats s.frameCount (s.liveRegions.map Region.size).sum)) })

/-! ### The whole machine -/

/-- 43_frame_scheduler.md R260: a command changes S.sched only as the transition table lists. -/
def Obligations.SchedulerTakesOnlyListedTransitions : Prop :=
  ∀ (i : Instr) (s t : State), (s.sched = .haltedError → s.ready = false) → exec i s = .next t → schedMay i s t

/-- HaltedError is terminal (43_frame_scheduler.md R268): a host command leaves the block as it is; SHUTDOWN answers Ok,
every other StateError. -/
def Obligations.HaltedErrorIsTerminal : Prop :=
  ∀ (i : Instr) (s : State), i.wf .host = true → s.fault = none → s.sched = .haltedError → s.ready = false →
    exec i s = .next { s with response := some (if i = .shutdown then .ok .none else .err .state) }

/-- An error changes nothing but the response (00_scope.md R8), except INIT's AllocationError, which halts, and RUNF's
ExecutionError. -/
def Obligations.ErrorsChangeNothing : Prop :=
  ∀ (i : Instr) (s t : State) (e : Err), exec i s = .next t → t.response = some (.err e) →
    t = { s with response := some (.err e) } ∨
    (i = .init ∧ e = .allocation ∧ t = { s with sched := .haltedError, response := some (.err e) }) ∨
    (i = .runf ∧ e = .execution)

/-- Who writes each field (10_state.md R37): a command that changes one is among the field's writers. -/
def Obligations.OnlyItsWritersChangeAField : Prop :=
  ∀ (i : Instr) (s t : State), exec i s = .next t →
    (t.sched ≠ s.sched → i = .init ∨ i = .start ∨ i = .shutdown) ∧
    (t.ready ≠ s.ready → i = .init ∨ i = .shutdown) ∧
    (t.regions ≠ s.regions →
      i = .init ∨ (∃ k, i = .ldrom k) ∨ i = .runf ∨ i = .reset ∨ i = .shutdown ∨ (∃ r n, i = .alloc r n) ∨
      (∃ r, i = .free r) ∨ (∃ a v, i = .bwr a v) ∨ (∃ a v, i = .dwr a v) ∨ ∃ a v, i = .aswr a v) ∧
    (t.pages ≠ s.pages → i = .init ∨ i = .shutdown ∨ (∃ r, i = .free r) ∨ ∃ r lo hi ro, i = .map r lo hi ro) ∧
    (t.ie ≠ s.ie → i = .init ∨ i = .reset ∨ i = .runf ∨ (∃ a v, i = .bwr a v) ∨ ∃ a v, i = .dwr a v) ∧
    (t.flip ≠ s.flip → i = .init ∨ i = .reset ∨ i = .runf ∨ (∃ a v, i = .bwr a v) ∨ ∃ a v, i = .dwr a v) ∧
    (t.sprite ≠ s.sprite → i = .init ∨ i = .runf ∨ (∃ a v, i = .bwr a v) ∨ ∃ a v, i = .dwr a v) ∧
    (t.in0 ≠ s.in0 ∨ t.in1 ≠ s.in1 → i = .init ∨ ∃ p0 p1, i = .updin p0 p1) ∧
    (t.frameCount ≠ s.frameCount → i = .init ∨ i = .runf) ∧
    (t.romLoaded ≠ s.romLoaded → i = .init ∨ ∃ k, i = .ldrom k) ∧
    (t.cpuOut ≠ s.cpuOut → i = .runf ∨ i = .reset) ∧
    (t.cfg = s.cfg ∧ t.pending = s.pending ∧ t.image = s.image ∧ t.draw = s.draw)

/-- The calls to the core are only appended, never `hold` or `pulse`, and the interrupt line is clear after a command if
it was before (10_state.md R35, 43_frame_scheduler.md R264). -/
def Obligations.CoreCallsAreAppendedAndTheLineEndsClear : Prop :=
  ∀ (i : Instr) (s t : State), exec i s = .next t →
    (∃ es, t.cpuOut = s.cpuOut ++ es ∧ ∀ l, .irqLine l .hold ∉ es ∧ .irqLine l .pulse ∉ es) ∧
    (lineLevel s.cpuOut = .clear → lineLevel t.cpuOut = .clear)

/-- Nothing clears a fault or the refused flag (10_state.md R33, R34), and no step changes the configuration. -/
def Obligations.FaultAndRefusalAreNeverCleared : Prop :=
  ∀ s t : State, step s = .next t →
    (s.fault ≠ none → t.fault = s.fault) ∧ (s.refused = true → t.refused = true) ∧ t.cfg = s.cfg

/-- Every step keeps the invariant of `State.Inv` (10_state.md R22, R24, R26, R31; 43_frame_scheduler.md R264), from
every state that meets it. -/
def Obligations.EveryStepKeepsTheInvariant : Prop := ∀ s t : State, s.Inv → step s = .next t → t.Inv

/-- A new session (10_state.md R38 column "Create") meets the invariant of `State.Inv`. It rests on the model's choices
of what a new session holds: the reference configuration (log entry 3), the frame count 0 (log entry 5) and `inExecute`
false (log entry 7). -/
def Obligations.NewSessionMeetsTheInvariant : Prop := State.reset.Inv

/-- A new session (10_state.md R38 column "Create"): Idle, not ready, no region, every page Unmapped, no fault, not
refused, no call to the core. -/
def Obligations.NewSessionIsIdleAndEmpty : Prop :=
  State.reset.sched = .idle ∧ State.reset.ready = false ∧ (∀ r, State.reset.region r = none) ∧
  (∀ p, State.reset.page p = .unmapped) ∧ State.reset.fault = none ∧ State.reset.refused = false ∧
  State.reset.cpuOut = []

/-- From a new session INIT answers Ok (42_driver_lifecycle.md R223). It rests on the reference configuration that the
model gives a new session (log entry 3). -/
def Obligations.InitOfANewSessionSucceeds : Prop :=
  ∃ t, exec .init State.reset = .next t ∧ t.response = some (.ok .none) ∧ t.ready = true ∧ t.memoryUsage = 19456

/-- The pseudo-instructions of a RUNF body, under any admitted configuration (30_encoding.md R110): IEN and FLIPW store
bit 0 of their byte, SPR n stores slots 2n and 2n + 1, and nothing else of the block changes. -/
def Obligations.BodyPseudoInstructionsSetTheirRegisters : Prop :=
  ∀ (s : State) (v e0 e1 : Byte) (n : Fin 8), admitted s.cfg = true → s.fault = none →
    s.runBody (pseudoTransactions s.cfg (.ien v)) = { s with ie := v.getLsbD 0, response := some (.ok .none) } ∧
    s.runBody (pseudoTransactions s.cfg (.flipw v)) = { s with flip := v.getLsbD 0, response := some (.ok .none) } ∧
    s.runBody (pseudoTransactions s.cfg (.spr n.val e0 e1)) = { s with
      sprite := (s.sprite.set (2 * n.val) e0 (by omega)).set (2 * n.val + 1) e1 (by omega),
      response := some (.ok .none) }
end

