-- ==== Sys2Proof/Laws/Fields.lean ====
section
/-! SUPPORT. Laws of the command word's fields and of the opcode map. -/

namespace Sys2Proof

/-- The bits of a packed word (30_encoding.md R100). -/
theorem Fields.getLsbD_word (f : Fields) (i : Nat) :
    f.word.getLsbD i =
      if i < 16 then f.d.getLsbD i
      else if i < 32 then f.b.getLsbD (i - 16)
      else if i < 48 then f.a.getLsbD (i - 32)
      else if i < 56 then f.k.getLsbD (i - 48)
      else f.op.getLsbD (i - 56) := by
  change BitVec.getLsbD (w := 8 + 8 + 16 + 16 + 16) (f.op ++ f.k ++ f.a ++ f.b ++ f.d) i = _
  simp only [BitVec.getLsbD_append]
  split_ifs <;> first | omega | rfl

/-- The fields of a packed word are the fields packed (30_encoding.md R100). -/
@[simp] theorem Fields.ofWord_word (f : Fields) : Fields.ofWord f.word = f := by
  obtain ⟨op, k, a, b, d⟩ := f
  simp only [Fields.ofWord, Fields.mk.injEq]
  refine ⟨?_, ?_, ?_, ?_, ?_⟩ <;>
  · apply BitVec.eq_of_getLsbD_eq
    intro i hi
    simp only [BitVec.getLsbD_extractLsb', Fields.getLsbD_word, hi, decide_true, Bool.true_and]
    split_ifs <;> first | omega | (congr 1; omega)

/-- Packing a word's fields gives the word (30_encoding.md R100). -/
@[simp] theorem Fields.word_ofWord (w : Cmd64) : (Fields.ofWord w).word = w := by
  apply BitVec.eq_of_getLsbD_eq
  intro i hi
  simp only [Fields.getLsbD_word, Fields.ofWord, BitVec.getLsbD_extractLsb']
  split_ifs
  all_goals
    first
    | (rw [decide_eq_true (by omega : i < 16)]; simp)
    | (rw [decide_eq_true (by omega)]; simp only [Bool.true_and]; congr 1; omega)

/-- The opcode map is one to one: a row's OP byte selects that row (30_encoding.md R103). -/
@[simp] theorem Opcode.ofByte_code (o : Opcode) : Opcode.ofByte o.code = some o := by cases o <;> decide

/-- A row is selected only by its own OP byte (30_encoding.md R103, R105). -/
theorem Opcode.code_of_ofByte {b : BitVec 8} {o : Opcode} (h : Opcode.ofByte b = some o) : o.code = b := by
  simpa using List.find?_some h

end Sys2Proof
end

