-- ==== Sys2Proof/Laws/Sparse.lean ====
section
/-! SUPPORT. Laws of sparse tables and of memory: a read after a write, and the canonical form. The read laws hold for
every list, canonical or not. -/

namespace Sys2Proof.Machine

variable {α : Type}

@[simp] theorem Sparse.read_nil (d : α) (k : Nat) : Sparse.read d ([] : Sparse α) k = d := rfl

theorem Sparse.read_cons (d : α) (j : Nat) (x : α) (t : Sparse α) (k : Nat) :
    Sparse.read d ((j, x) :: t) k = if j = k then x else Sparse.read d t k := rfl

theorem Sparse.read_insert (d : α) (t : Sparse α) (k : Nat) (x : α) (k' : Nat) :
    Sparse.read d (Sparse.insert k x t) k' = if k = k' then x else Sparse.read d t k' := by
  induction t with
  | nil => rfl
  | cons e t ih =>
    obtain ⟨j, y⟩ := e
    simp only [Sparse.insert]
    split_ifs with h1 h2 <;> simp only [Sparse.read_cons, ih] <;> split_ifs <;> first | rfl | omega

theorem Sparse.read_filter_ne (d : α) (t : Sparse α) (k k' : Nat) :
    Sparse.read d (t.filter fun e => e.1 != k) k' = if k = k' then d else Sparse.read d t k' := by
  induction t with
  | nil => simp
  | cons e t ih =>
    obtain ⟨j, y⟩ := e
    by_cases h : j = k
    · subst h
      simp only [List.filter_cons, bne_self_eq_false, Bool.false_eq_true, if_false, ih, Sparse.read_cons]
      split_ifs <;> rfl
    · have hb : (j != k) = true := by simpa using h
      simp only [List.filter_cons, hb, if_true, Sparse.read_cons, ih]
      split_ifs <;> first | rfl | omega

/-- A read after a write: the written key gives the value, every other key what it gave before. -/
theorem Sparse.read_write [DecidableEq α] (d : α) (t : Sparse α) (k : Nat) (x : α) (k' : Nat) :
    Sparse.read d (Sparse.write d t k x) k' = if k = k' then x else Sparse.read d t k' := by
  unfold Sparse.write
  split_ifs with h h' h' <;> simp_all [Sparse.read_insert, Sparse.read_filter_ne]

@[simp] theorem Sparse.read_write_same [DecidableEq α] (d : α) (t : Sparse α) (k : Nat) (x : α) :
    Sparse.read d (Sparse.write d t k x) k = x := by simp [Sparse.read_write]

theorem Sparse.read_write_ne [DecidableEq α] (d : α) (t : Sparse α) {k k' : Nat} (x : α) (h : k ≠ k') :
    Sparse.read d (Sparse.write d t k x) k' = Sparse.read d t k' := by simp [Sparse.read_write, h]

/-- A key read as anything but the default is listed with that value. -/
theorem Sparse.mem_of_read (d : α) (t : Sparse α) (k : Nat) (h : Sparse.read d t k ≠ d) :
    (k, Sparse.read d t k) ∈ t := by
  induction t with
  | nil => simp at h
  | cons e t ih =>
    obtain ⟨j, y⟩ := e
    simp only [Sparse.read_cons] at h ⊢
    split_ifs at h ⊢ with hj
    · simp [hj]
    · exact List.mem_cons_of_mem _ (ih h)

theorem Sparse.mem_insert {t : Sparse α} {k : Nat} {x : α} {e : Nat × α} (h : e ∈ Sparse.insert k x t) :
    e = (k, x) ∨ e ∈ t := by
  induction t with
  | nil => simpa [Sparse.insert] using h
  | cons e' t ih =>
    obtain ⟨j, y⟩ := e'
    simp only [Sparse.insert] at h
    split_ifs at h with h1 h2
    · simpa using h
    · rcases List.mem_cons.1 h with h | h
      · exact .inl h
      · exact .inr (List.mem_cons_of_mem _ h)
    · rcases List.mem_cons.1 h with h | h
      · exact .inr (by simp [h])
      · exact (ih h).imp_right (List.mem_cons_of_mem _)

/-- A write lists nothing but its own entry and what was listed. -/
theorem Sparse.mem_write [DecidableEq α] {d : α} {t : Sparse α} {k : Nat} {x : α} {e : Nat × α}
    (h : e ∈ Sparse.write d t k x) : e = (k, x) ∨ e ∈ t := by
  unfold Sparse.write at h
  split_ifs at h
  · exact .inr (List.mem_of_mem_filter h)
  · exact Sparse.mem_insert h

theorem Sparse.pairwise_insert {t : Sparse α} (k : Nat) (x : α)
    (h : t.Pairwise fun e e' => e.1 < e'.1) : (Sparse.insert k x t).Pairwise fun e e' => e.1 < e'.1 := by
  induction t with
  | nil => simp [Sparse.insert]
  | cons e t ih =>
    obtain ⟨j, y⟩ := e
    obtain ⟨hj, ht⟩ := List.pairwise_cons.1 h
    simp only [Sparse.insert]
    split_ifs with h1 h2
    · refine List.pairwise_cons.2 ⟨fun e he => ?_, h⟩
      rcases List.mem_cons.1 he with rfl | he
      · exact h1
      · exact Nat.lt_trans h1 (hj e he)
    · exact List.pairwise_cons.2 ⟨fun e he => h2 ▸ hj e he, ht⟩
    · refine List.pairwise_cons.2 ⟨fun e he => ?_, ih ht⟩
      rcases Sparse.mem_insert he with rfl | he
      · change j < k; omega
      · exact hj e he

/-- A write keeps the canonical form. -/
theorem Sparse.canonical_write [DecidableEq α] {d : α} {t : Sparse α} (k : Nat) (x : α)
    (h : Sparse.Canonical d t) : Sparse.Canonical d (Sparse.write d t k x) := by
  unfold Sparse.write
  split_ifs with hx
  · exact ⟨h.1.filter _, fun e he => h.2 e (List.mem_of_mem_filter he)⟩
  · refine ⟨Sparse.pairwise_insert k x h.1, fun e he => ?_⟩
    rcases Sparse.mem_insert he with rfl | he
    · exact hx
    · exact h.2 e he

theorem Sparse.read_eq_of_mem {d : α} {t : Sparse α} (h : t.Pairwise fun e e' => e.1 < e'.1) {e : Nat × α}
    (he : e ∈ t) : Sparse.read d t e.1 = e.2 := by
  induction t with
  | nil => simp at he
  | cons e' t ih =>
    obtain ⟨j, y⟩ := e'
    obtain ⟨hj, ht⟩ := List.pairwise_cons.1 h
    rcases List.mem_cons.1 he with rfl | he
    · simp [Sparse.read_cons]
    · have := hj e he
      have hne : j ≠ e.1 := by change j < e.1 at this; omega
      simpa [Sparse.read_cons, hne] using ih ht he

/-- Two canonical tables that read alike are the same list. -/
theorem Sparse.ext_of_canonical [DecidableEq α] {d : α} {t t' : Sparse α} (h : Sparse.Canonical d t)
    (h' : Sparse.Canonical d t') (hr : ∀ k, Sparse.read d t k = Sparse.read d t' k) : t = t' := by
  have key : ∀ {u v : Sparse α}, Sparse.Canonical d u → (∀ k, Sparse.read d u k = Sparse.read d v k) →
      ∀ e ∈ u, e ∈ v := by
    intro u v hu huv e he
    have h1 := Sparse.read_eq_of_mem (d := d) hu.1 he
    have h2 : Sparse.read d v e.1 = e.2 := (huv e.1) ▸ h1
    have h3 := Sparse.mem_of_read d v e.1 (h2 ▸ hu.2 e he)
    rwa [h2] at h3
  have nodup : ∀ {u : Sparse α}, u.Pairwise (fun e e' => e.1 < e'.1) → u.Nodup := fun hu =>
    hu.imp fun hlt heq => absurd (heq ▸ hlt) (Nat.lt_irrefl _)
  have perm : t.Perm t' := (List.perm_ext_iff_of_nodup (nodup h.1) (nodup h'.1)).2 fun e =>
    ⟨key h hr e, key h' (fun k => (hr k).symm) e⟩
  exact perm.eq_of_pairwise (fun a b _ _ hab hba => absurd hab (Nat.lt_asymm hba)) h.1 h'.1

/-! ### Memory -/

@[simp] theorem Memory.read_zero (i : Nat) : Memory.zero.read i = 0x00 := rfl

/-- A byte read after a store: the stored offset gives the byte, every other what it gave before. -/
theorem Memory.read_write (m : Memory) (i : Nat) (v : Byte) (j : Nat) :
    (m.write i v).read j = if i = j then v else m.read j := Sparse.read_write _ m i v j

/-- A byte read after a block store. -/
theorem Memory.read_load (m : Memory) (base : Nat) (img : List Byte) (j : Nat) :
    (m.load base img).read j =
      if base ≤ j ∧ j < base + img.length then img.getD (j - base) 0x00 else m.read j := by
  induction img generalizing base with
  | nil => simp [Memory.load]
  | cons v img ih =>
    simp only [Memory.load, Memory.read_write, ih, List.length_cons]
    rcases Nat.lt_trichotomy base j with h | h | h
    · obtain ⟨n, rfl⟩ : ∃ n, j = base + 1 + n := ⟨j - base - 1, by omega⟩
      have h1 : base + 1 + n - base = n + 1 := by omega
      have h2 : base + 1 + n - (base + 1) = n := by omega
      have h3 : base ≠ base + 1 + n := by omega
      have h4 : (base + 1 ≤ base + 1 + n ∧ base + 1 + n < base + 1 + img.length) ↔
          (base ≤ base + 1 + n ∧ base + 1 + n < base + (img.length + 1)) := by omega
      simp only [h1, h2, h3, if_false, h4, List.getD_cons_succ]
    · subst h; simp
    · have h1 : base ≠ j := by omega
      have h2 : ¬(base + 1 ≤ j ∧ j < base + 1 + img.length) := by omega
      have h3 : ¬(base ≤ j ∧ j < base + (img.length + 1)) := by omega
      simp only [h1, h2, h3, if_false]

@[simp] theorem Memory.wf_zero : Memory.zero.wf := ⟨List.Pairwise.nil, by simp [Memory.zero]⟩

theorem Memory.wf_write {m : Memory} (i : Nat) (v : Byte) (h : m.wf) : (m.write i v).wf :=
  Sparse.canonical_write i v h

theorem Memory.wf_load {m : Memory} (base : Nat) (img : List Byte) (h : m.wf) : (m.load base img).wf := by
  induction img generalizing base with
  | nil => exact h
  | cons v img ih => exact Memory.wf_write _ _ (ih _)

/-- A store below `n` keeps every listed offset below `n`. -/
theorem Memory.bound_write {m : Memory} {n : Nat} (i : Nat) (v : Byte) (hi : i < n)
    (h : ∀ e ∈ m, e.1 < n) : ∀ e ∈ m.write i v, e.1 < n := by
  intro e he
  rcases Sparse.mem_write he with rfl | he
  · exact hi
  · exact h e he

theorem Memory.bound_load {m : Memory} {n : Nat} (base : Nat) (img : List Byte) (hb : base + img.length ≤ n)
    (h : ∀ e ∈ m, e.1 < n) : ∀ e ∈ m.load base img, e.1 < n := by
  induction img generalizing base with
  | nil => exact h
  | cons v img ih =>
    simp only [List.length_cons] at hb
    exact Memory.bound_write _ _ (by omega) (ih (base + 1) (by omega))

end Sys2Proof.Machine
end

