-- ==== Sys2Proof/Laws/State.lean ====
section
/-! SUPPORT. One lemma per field per update of the state, each true by rfl. -/

namespace Sys2Proof.Machine

variable (s : State)

@[simp] theorem State.setSched_sched (x : Sched) : (s.setSched x).sched = x := rfl
@[simp] theorem State.setSched_ready (x : Sched) : (s.setSched x).ready = s.ready := rfl
@[simp] theorem State.setSched_regions (x : Sched) : (s.setSched x).regions = s.regions := rfl
@[simp] theorem State.setSched_pages (x : Sched) : (s.setSched x).pages = s.pages := rfl
@[simp] theorem State.setSched_ie (x : Sched) : (s.setSched x).ie = s.ie := rfl
@[simp] theorem State.setSched_flip (x : Sched) : (s.setSched x).flip = s.flip := rfl
@[simp] theorem State.setSched_sprite (x : Sched) : (s.setSched x).sprite = s.sprite := rfl
@[simp] theorem State.setSched_in0 (x : Sched) : (s.setSched x).in0 = s.in0 := rfl
@[simp] theorem State.setSched_in1 (x : Sched) : (s.setSched x).in1 = s.in1 := rfl
@[simp] theorem State.setSched_frameCount (x : Sched) : (s.setSched x).frameCount = s.frameCount := rfl
@[simp] theorem State.setSched_romLoaded (x : Sched) : (s.setSched x).romLoaded = s.romLoaded := rfl
@[simp] theorem State.setSched_fault (x : Sched) : (s.setSched x).fault = s.fault := rfl
@[simp] theorem State.setSched_refused (x : Sched) : (s.setSched x).refused = s.refused := rfl
@[simp] theorem State.setSched_cpuOut (x : Sched) : (s.setSched x).cpuOut = s.cpuOut := rfl
@[simp] theorem State.setSched_cfg (x : Sched) : (s.setSched x).cfg = s.cfg := rfl
@[simp] theorem State.setSched_inExecute (x : Sched) : (s.setSched x).inExecute = s.inExecute := rfl
@[simp] theorem State.setSched_image (x : Sched) : (s.setSched x).image = s.image := rfl
@[simp] theorem State.setSched_draw (x : Sched) : (s.setSched x).draw = s.draw := rfl
@[simp] theorem State.setSched_pending (x : Sched) : (s.setSched x).pending = s.pending := rfl
@[simp] theorem State.setSched_response (x : Sched) : (s.setSched x).response = s.response := rfl
@[simp] theorem State.setSched_received (x : Sched) : (s.setSched x).received = s.received := rfl

@[simp] theorem State.setReady_sched (x : Bool) : (s.setReady x).sched = s.sched := rfl
@[simp] theorem State.setReady_ready (x : Bool) : (s.setReady x).ready = x := rfl
@[simp] theorem State.setReady_regions (x : Bool) : (s.setReady x).regions = s.regions := rfl
@[simp] theorem State.setReady_pages (x : Bool) : (s.setReady x).pages = s.pages := rfl
@[simp] theorem State.setReady_ie (x : Bool) : (s.setReady x).ie = s.ie := rfl
@[simp] theorem State.setReady_flip (x : Bool) : (s.setReady x).flip = s.flip := rfl
@[simp] theorem State.setReady_sprite (x : Bool) : (s.setReady x).sprite = s.sprite := rfl
@[simp] theorem State.setReady_in0 (x : Bool) : (s.setReady x).in0 = s.in0 := rfl
@[simp] theorem State.setReady_in1 (x : Bool) : (s.setReady x).in1 = s.in1 := rfl
@[simp] theorem State.setReady_frameCount (x : Bool) : (s.setReady x).frameCount = s.frameCount := rfl
@[simp] theorem State.setReady_romLoaded (x : Bool) : (s.setReady x).romLoaded = s.romLoaded := rfl
@[simp] theorem State.setReady_fault (x : Bool) : (s.setReady x).fault = s.fault := rfl
@[simp] theorem State.setReady_refused (x : Bool) : (s.setReady x).refused = s.refused := rfl
@[simp] theorem State.setReady_cpuOut (x : Bool) : (s.setReady x).cpuOut = s.cpuOut := rfl
@[simp] theorem State.setReady_cfg (x : Bool) : (s.setReady x).cfg = s.cfg := rfl
@[simp] theorem State.setReady_inExecute (x : Bool) : (s.setReady x).inExecute = s.inExecute := rfl
@[simp] theorem State.setReady_image (x : Bool) : (s.setReady x).image = s.image := rfl
@[simp] theorem State.setReady_draw (x : Bool) : (s.setReady x).draw = s.draw := rfl
@[simp] theorem State.setReady_pending (x : Bool) : (s.setReady x).pending = s.pending := rfl
@[simp] theorem State.setReady_response (x : Bool) : (s.setReady x).response = s.response := rfl
@[simp] theorem State.setReady_received (x : Bool) : (s.setReady x).received = s.received := rfl

@[simp] theorem State.setRegions_sched (x : Sparse (Option Region)) : (s.setRegions x).sched = s.sched := rfl
@[simp] theorem State.setRegions_ready (x : Sparse (Option Region)) : (s.setRegions x).ready = s.ready := rfl
@[simp] theorem State.setRegions_regions (x : Sparse (Option Region)) : (s.setRegions x).regions = x := rfl
@[simp] theorem State.setRegions_pages (x : Sparse (Option Region)) : (s.setRegions x).pages = s.pages := rfl
@[simp] theorem State.setRegions_ie (x : Sparse (Option Region)) : (s.setRegions x).ie = s.ie := rfl
@[simp] theorem State.setRegions_flip (x : Sparse (Option Region)) : (s.setRegions x).flip = s.flip := rfl
@[simp] theorem State.setRegions_sprite (x : Sparse (Option Region)) : (s.setRegions x).sprite = s.sprite := rfl
@[simp] theorem State.setRegions_in0 (x : Sparse (Option Region)) : (s.setRegions x).in0 = s.in0 := rfl
@[simp] theorem State.setRegions_in1 (x : Sparse (Option Region)) : (s.setRegions x).in1 = s.in1 := rfl
@[simp] theorem State.setRegions_frameCount (x : Sparse (Option Region)) : (s.setRegions x).frameCount = s.frameCount := rfl
@[simp] theorem State.setRegions_romLoaded (x : Sparse (Option Region)) : (s.setRegions x).romLoaded = s.romLoaded := rfl
@[simp] theorem State.setRegions_fault (x : Sparse (Option Region)) : (s.setRegions x).fault = s.fault := rfl
@[simp] theorem State.setRegions_refused (x : Sparse (Option Region)) : (s.setRegions x).refused = s.refused := rfl
@[simp] theorem State.setRegions_cpuOut (x : Sparse (Option Region)) : (s.setRegions x).cpuOut = s.cpuOut := rfl
@[simp] theorem State.setRegions_cfg (x : Sparse (Option Region)) : (s.setRegions x).cfg = s.cfg := rfl
@[simp] theorem State.setRegions_inExecute (x : Sparse (Option Region)) : (s.setRegions x).inExecute = s.inExecute := rfl
@[simp] theorem State.setRegions_image (x : Sparse (Option Region)) : (s.setRegions x).image = s.image := rfl
@[simp] theorem State.setRegions_draw (x : Sparse (Option Region)) : (s.setRegions x).draw = s.draw := rfl
@[simp] theorem State.setRegions_pending (x : Sparse (Option Region)) : (s.setRegions x).pending = s.pending := rfl
@[simp] theorem State.setRegions_response (x : Sparse (Option Region)) : (s.setRegions x).response = s.response := rfl
@[simp] theorem State.setRegions_received (x : Sparse (Option Region)) : (s.setRegions x).received = s.received := rfl

@[simp] theorem State.setPages_sched (x : Sparse PageDesc) : (s.setPages x).sched = s.sched := rfl
@[simp] theorem State.setPages_ready (x : Sparse PageDesc) : (s.setPages x).ready = s.ready := rfl
@[simp] theorem State.setPages_regions (x : Sparse PageDesc) : (s.setPages x).regions = s.regions := rfl
@[simp] theorem State.setPages_pages (x : Sparse PageDesc) : (s.setPages x).pages = x := rfl
@[simp] theorem State.setPages_ie (x : Sparse PageDesc) : (s.setPages x).ie = s.ie := rfl
@[simp] theorem State.setPages_flip (x : Sparse PageDesc) : (s.setPages x).flip = s.flip := rfl
@[simp] theorem State.setPages_sprite (x : Sparse PageDesc) : (s.setPages x).sprite = s.sprite := rfl
@[simp] theorem State.setPages_in0 (x : Sparse PageDesc) : (s.setPages x).in0 = s.in0 := rfl
@[simp] theorem State.setPages_in1 (x : Sparse PageDesc) : (s.setPages x).in1 = s.in1 := rfl
@[simp] theorem State.setPages_frameCount (x : Sparse PageDesc) : (s.setPages x).frameCount = s.frameCount := rfl
@[simp] theorem State.setPages_romLoaded (x : Sparse PageDesc) : (s.setPages x).romLoaded = s.romLoaded := rfl
@[simp] theorem State.setPages_fault (x : Sparse PageDesc) : (s.setPages x).fault = s.fault := rfl
@[simp] theorem State.setPages_refused (x : Sparse PageDesc) : (s.setPages x).refused = s.refused := rfl
@[simp] theorem State.setPages_cpuOut (x : Sparse PageDesc) : (s.setPages x).cpuOut = s.cpuOut := rfl
@[simp] theorem State.setPages_cfg (x : Sparse PageDesc) : (s.setPages x).cfg = s.cfg := rfl
@[simp] theorem State.setPages_inExecute (x : Sparse PageDesc) : (s.setPages x).inExecute = s.inExecute := rfl
@[simp] theorem State.setPages_image (x : Sparse PageDesc) : (s.setPages x).image = s.image := rfl
@[simp] theorem State.setPages_draw (x : Sparse PageDesc) : (s.setPages x).draw = s.draw := rfl
@[simp] theorem State.setPages_pending (x : Sparse PageDesc) : (s.setPages x).pending = s.pending := rfl
@[simp] theorem State.setPages_response (x : Sparse PageDesc) : (s.setPages x).response = s.response := rfl
@[simp] theorem State.setPages_received (x : Sparse PageDesc) : (s.setPages x).received = s.received := rfl

@[simp] theorem State.setIe_sched (x : Bool) : (s.setIe x).sched = s.sched := rfl
@[simp] theorem State.setIe_ready (x : Bool) : (s.setIe x).ready = s.ready := rfl
@[simp] theorem State.setIe_regions (x : Bool) : (s.setIe x).regions = s.regions := rfl
@[simp] theorem State.setIe_pages (x : Bool) : (s.setIe x).pages = s.pages := rfl
@[simp] theorem State.setIe_ie (x : Bool) : (s.setIe x).ie = x := rfl
@[simp] theorem State.setIe_flip (x : Bool) : (s.setIe x).flip = s.flip := rfl
@[simp] theorem State.setIe_sprite (x : Bool) : (s.setIe x).sprite = s.sprite := rfl
@[simp] theorem State.setIe_in0 (x : Bool) : (s.setIe x).in0 = s.in0 := rfl
@[simp] theorem State.setIe_in1 (x : Bool) : (s.setIe x).in1 = s.in1 := rfl
@[simp] theorem State.setIe_frameCount (x : Bool) : (s.setIe x).frameCount = s.frameCount := rfl
@[simp] theorem State.setIe_romLoaded (x : Bool) : (s.setIe x).romLoaded = s.romLoaded := rfl
@[simp] theorem State.setIe_fault (x : Bool) : (s.setIe x).fault = s.fault := rfl
@[simp] theorem State.setIe_refused (x : Bool) : (s.setIe x).refused = s.refused := rfl
@[simp] theorem State.setIe_cpuOut (x : Bool) : (s.setIe x).cpuOut = s.cpuOut := rfl
@[simp] theorem State.setIe_cfg (x : Bool) : (s.setIe x).cfg = s.cfg := rfl
@[simp] theorem State.setIe_inExecute (x : Bool) : (s.setIe x).inExecute = s.inExecute := rfl
@[simp] theorem State.setIe_image (x : Bool) : (s.setIe x).image = s.image := rfl
@[simp] theorem State.setIe_draw (x : Bool) : (s.setIe x).draw = s.draw := rfl
@[simp] theorem State.setIe_pending (x : Bool) : (s.setIe x).pending = s.pending := rfl
@[simp] theorem State.setIe_response (x : Bool) : (s.setIe x).response = s.response := rfl
@[simp] theorem State.setIe_received (x : Bool) : (s.setIe x).received = s.received := rfl

@[simp] theorem State.setFlip_sched (x : Bool) : (s.setFlip x).sched = s.sched := rfl
@[simp] theorem State.setFlip_ready (x : Bool) : (s.setFlip x).ready = s.ready := rfl
@[simp] theorem State.setFlip_regions (x : Bool) : (s.setFlip x).regions = s.regions := rfl
@[simp] theorem State.setFlip_pages (x : Bool) : (s.setFlip x).pages = s.pages := rfl
@[simp] theorem State.setFlip_ie (x : Bool) : (s.setFlip x).ie = s.ie := rfl
@[simp] theorem State.setFlip_flip (x : Bool) : (s.setFlip x).flip = x := rfl
@[simp] theorem State.setFlip_sprite (x : Bool) : (s.setFlip x).sprite = s.sprite := rfl
@[simp] theorem State.setFlip_in0 (x : Bool) : (s.setFlip x).in0 = s.in0 := rfl
@[simp] theorem State.setFlip_in1 (x : Bool) : (s.setFlip x).in1 = s.in1 := rfl
@[simp] theorem State.setFlip_frameCount (x : Bool) : (s.setFlip x).frameCount = s.frameCount := rfl
@[simp] theorem State.setFlip_romLoaded (x : Bool) : (s.setFlip x).romLoaded = s.romLoaded := rfl
@[simp] theorem State.setFlip_fault (x : Bool) : (s.setFlip x).fault = s.fault := rfl
@[simp] theorem State.setFlip_refused (x : Bool) : (s.setFlip x).refused = s.refused := rfl
@[simp] theorem State.setFlip_cpuOut (x : Bool) : (s.setFlip x).cpuOut = s.cpuOut := rfl
@[simp] theorem State.setFlip_cfg (x : Bool) : (s.setFlip x).cfg = s.cfg := rfl
@[simp] theorem State.setFlip_inExecute (x : Bool) : (s.setFlip x).inExecute = s.inExecute := rfl
@[simp] theorem State.setFlip_image (x : Bool) : (s.setFlip x).image = s.image := rfl
@[simp] theorem State.setFlip_draw (x : Bool) : (s.setFlip x).draw = s.draw := rfl
@[simp] theorem State.setFlip_pending (x : Bool) : (s.setFlip x).pending = s.pending := rfl
@[simp] theorem State.setFlip_response (x : Bool) : (s.setFlip x).response = s.response := rfl
@[simp] theorem State.setFlip_received (x : Bool) : (s.setFlip x).received = s.received := rfl

@[simp] theorem State.setSprite_sched (x : Vector Byte 16) : (s.setSprite x).sched = s.sched := rfl
@[simp] theorem State.setSprite_ready (x : Vector Byte 16) : (s.setSprite x).ready = s.ready := rfl
@[simp] theorem State.setSprite_regions (x : Vector Byte 16) : (s.setSprite x).regions = s.regions := rfl
@[simp] theorem State.setSprite_pages (x : Vector Byte 16) : (s.setSprite x).pages = s.pages := rfl
@[simp] theorem State.setSprite_ie (x : Vector Byte 16) : (s.setSprite x).ie = s.ie := rfl
@[simp] theorem State.setSprite_flip (x : Vector Byte 16) : (s.setSprite x).flip = s.flip := rfl
@[simp] theorem State.setSprite_sprite (x : Vector Byte 16) : (s.setSprite x).sprite = x := rfl
@[simp] theorem State.setSprite_in0 (x : Vector Byte 16) : (s.setSprite x).in0 = s.in0 := rfl
@[simp] theorem State.setSprite_in1 (x : Vector Byte 16) : (s.setSprite x).in1 = s.in1 := rfl
@[simp] theorem State.setSprite_frameCount (x : Vector Byte 16) : (s.setSprite x).frameCount = s.frameCount := rfl
@[simp] theorem State.setSprite_romLoaded (x : Vector Byte 16) : (s.setSprite x).romLoaded = s.romLoaded := rfl
@[simp] theorem State.setSprite_fault (x : Vector Byte 16) : (s.setSprite x).fault = s.fault := rfl
@[simp] theorem State.setSprite_refused (x : Vector Byte 16) : (s.setSprite x).refused = s.refused := rfl
@[simp] theorem State.setSprite_cpuOut (x : Vector Byte 16) : (s.setSprite x).cpuOut = s.cpuOut := rfl
@[simp] theorem State.setSprite_cfg (x : Vector Byte 16) : (s.setSprite x).cfg = s.cfg := rfl
@[simp] theorem State.setSprite_inExecute (x : Vector Byte 16) : (s.setSprite x).inExecute = s.inExecute := rfl
@[simp] theorem State.setSprite_image (x : Vector Byte 16) : (s.setSprite x).image = s.image := rfl
@[simp] theorem State.setSprite_draw (x : Vector Byte 16) : (s.setSprite x).draw = s.draw := rfl
@[simp] theorem State.setSprite_pending (x : Vector Byte 16) : (s.setSprite x).pending = s.pending := rfl
@[simp] theorem State.setSprite_response (x : Vector Byte 16) : (s.setSprite x).response = s.response := rfl
@[simp] theorem State.setSprite_received (x : Vector Byte 16) : (s.setSprite x).received = s.received := rfl

@[simp] theorem State.setInputs_sched (p q : Byte) : (s.setInputs p q).sched = s.sched := rfl
@[simp] theorem State.setInputs_ready (p q : Byte) : (s.setInputs p q).ready = s.ready := rfl
@[simp] theorem State.setInputs_regions (p q : Byte) : (s.setInputs p q).regions = s.regions := rfl
@[simp] theorem State.setInputs_pages (p q : Byte) : (s.setInputs p q).pages = s.pages := rfl
@[simp] theorem State.setInputs_ie (p q : Byte) : (s.setInputs p q).ie = s.ie := rfl
@[simp] theorem State.setInputs_flip (p q : Byte) : (s.setInputs p q).flip = s.flip := rfl
@[simp] theorem State.setInputs_sprite (p q : Byte) : (s.setInputs p q).sprite = s.sprite := rfl
@[simp] theorem State.setInputs_in0 (p q : Byte) : (s.setInputs p q).in0 = p := rfl
@[simp] theorem State.setInputs_in1 (p q : Byte) : (s.setInputs p q).in1 = q := rfl
@[simp] theorem State.setInputs_frameCount (p q : Byte) : (s.setInputs p q).frameCount = s.frameCount := rfl
@[simp] theorem State.setInputs_romLoaded (p q : Byte) : (s.setInputs p q).romLoaded = s.romLoaded := rfl
@[simp] theorem State.setInputs_fault (p q : Byte) : (s.setInputs p q).fault = s.fault := rfl
@[simp] theorem State.setInputs_refused (p q : Byte) : (s.setInputs p q).refused = s.refused := rfl
@[simp] theorem State.setInputs_cpuOut (p q : Byte) : (s.setInputs p q).cpuOut = s.cpuOut := rfl
@[simp] theorem State.setInputs_cfg (p q : Byte) : (s.setInputs p q).cfg = s.cfg := rfl
@[simp] theorem State.setInputs_inExecute (p q : Byte) : (s.setInputs p q).inExecute = s.inExecute := rfl
@[simp] theorem State.setInputs_image (p q : Byte) : (s.setInputs p q).image = s.image := rfl
@[simp] theorem State.setInputs_draw (p q : Byte) : (s.setInputs p q).draw = s.draw := rfl
@[simp] theorem State.setInputs_pending (p q : Byte) : (s.setInputs p q).pending = s.pending := rfl
@[simp] theorem State.setInputs_response (p q : Byte) : (s.setInputs p q).response = s.response := rfl
@[simp] theorem State.setInputs_received (p q : Byte) : (s.setInputs p q).received = s.received := rfl

@[simp] theorem State.setFrameCount_sched (x : Nat) : (s.setFrameCount x).sched = s.sched := rfl
@[simp] theorem State.setFrameCount_ready (x : Nat) : (s.setFrameCount x).ready = s.ready := rfl
@[simp] theorem State.setFrameCount_regions (x : Nat) : (s.setFrameCount x).regions = s.regions := rfl
@[simp] theorem State.setFrameCount_pages (x : Nat) : (s.setFrameCount x).pages = s.pages := rfl
@[simp] theorem State.setFrameCount_ie (x : Nat) : (s.setFrameCount x).ie = s.ie := rfl
@[simp] theorem State.setFrameCount_flip (x : Nat) : (s.setFrameCount x).flip = s.flip := rfl
@[simp] theorem State.setFrameCount_sprite (x : Nat) : (s.setFrameCount x).sprite = s.sprite := rfl
@[simp] theorem State.setFrameCount_in0 (x : Nat) : (s.setFrameCount x).in0 = s.in0 := rfl
@[simp] theorem State.setFrameCount_in1 (x : Nat) : (s.setFrameCount x).in1 = s.in1 := rfl
@[simp] theorem State.setFrameCount_frameCount (x : Nat) : (s.setFrameCount x).frameCount = x := rfl
@[simp] theorem State.setFrameCount_romLoaded (x : Nat) : (s.setFrameCount x).romLoaded = s.romLoaded := rfl
@[simp] theorem State.setFrameCount_fault (x : Nat) : (s.setFrameCount x).fault = s.fault := rfl
@[simp] theorem State.setFrameCount_refused (x : Nat) : (s.setFrameCount x).refused = s.refused := rfl
@[simp] theorem State.setFrameCount_cpuOut (x : Nat) : (s.setFrameCount x).cpuOut = s.cpuOut := rfl
@[simp] theorem State.setFrameCount_cfg (x : Nat) : (s.setFrameCount x).cfg = s.cfg := rfl
@[simp] theorem State.setFrameCount_inExecute (x : Nat) : (s.setFrameCount x).inExecute = s.inExecute := rfl
@[simp] theorem State.setFrameCount_image (x : Nat) : (s.setFrameCount x).image = s.image := rfl
@[simp] theorem State.setFrameCount_draw (x : Nat) : (s.setFrameCount x).draw = s.draw := rfl
@[simp] theorem State.setFrameCount_pending (x : Nat) : (s.setFrameCount x).pending = s.pending := rfl
@[simp] theorem State.setFrameCount_response (x : Nat) : (s.setFrameCount x).response = s.response := rfl
@[simp] theorem State.setFrameCount_received (x : Nat) : (s.setFrameCount x).received = s.received := rfl

@[simp] theorem State.setRomLoaded_sched (x : BitVec 4) : (s.setRomLoaded x).sched = s.sched := rfl
@[simp] theorem State.setRomLoaded_ready (x : BitVec 4) : (s.setRomLoaded x).ready = s.ready := rfl
@[simp] theorem State.setRomLoaded_regions (x : BitVec 4) : (s.setRomLoaded x).regions = s.regions := rfl
@[simp] theorem State.setRomLoaded_pages (x : BitVec 4) : (s.setRomLoaded x).pages = s.pages := rfl
@[simp] theorem State.setRomLoaded_ie (x : BitVec 4) : (s.setRomLoaded x).ie = s.ie := rfl
@[simp] theorem State.setRomLoaded_flip (x : BitVec 4) : (s.setRomLoaded x).flip = s.flip := rfl
@[simp] theorem State.setRomLoaded_sprite (x : BitVec 4) : (s.setRomLoaded x).sprite = s.sprite := rfl
@[simp] theorem State.setRomLoaded_in0 (x : BitVec 4) : (s.setRomLoaded x).in0 = s.in0 := rfl
@[simp] theorem State.setRomLoaded_in1 (x : BitVec 4) : (s.setRomLoaded x).in1 = s.in1 := rfl
@[simp] theorem State.setRomLoaded_frameCount (x : BitVec 4) : (s.setRomLoaded x).frameCount = s.frameCount := rfl
@[simp] theorem State.setRomLoaded_romLoaded (x : BitVec 4) : (s.setRomLoaded x).romLoaded = x := rfl
@[simp] theorem State.setRomLoaded_fault (x : BitVec 4) : (s.setRomLoaded x).fault = s.fault := rfl
@[simp] theorem State.setRomLoaded_refused (x : BitVec 4) : (s.setRomLoaded x).refused = s.refused := rfl
@[simp] theorem State.setRomLoaded_cpuOut (x : BitVec 4) : (s.setRomLoaded x).cpuOut = s.cpuOut := rfl
@[simp] theorem State.setRomLoaded_cfg (x : BitVec 4) : (s.setRomLoaded x).cfg = s.cfg := rfl
@[simp] theorem State.setRomLoaded_inExecute (x : BitVec 4) : (s.setRomLoaded x).inExecute = s.inExecute := rfl
@[simp] theorem State.setRomLoaded_image (x : BitVec 4) : (s.setRomLoaded x).image = s.image := rfl
@[simp] theorem State.setRomLoaded_draw (x : BitVec 4) : (s.setRomLoaded x).draw = s.draw := rfl
@[simp] theorem State.setRomLoaded_pending (x : BitVec 4) : (s.setRomLoaded x).pending = s.pending := rfl
@[simp] theorem State.setRomLoaded_response (x : BitVec 4) : (s.setRomLoaded x).response = s.response := rfl
@[simp] theorem State.setRomLoaded_received (x : BitVec 4) : (s.setRomLoaded x).received = s.received := rfl

@[simp] theorem State.setInExecute_sched (x : Bool) : (s.setInExecute x).sched = s.sched := rfl
@[simp] theorem State.setInExecute_ready (x : Bool) : (s.setInExecute x).ready = s.ready := rfl
@[simp] theorem State.setInExecute_regions (x : Bool) : (s.setInExecute x).regions = s.regions := rfl
@[simp] theorem State.setInExecute_pages (x : Bool) : (s.setInExecute x).pages = s.pages := rfl
@[simp] theorem State.setInExecute_ie (x : Bool) : (s.setInExecute x).ie = s.ie := rfl
@[simp] theorem State.setInExecute_flip (x : Bool) : (s.setInExecute x).flip = s.flip := rfl
@[simp] theorem State.setInExecute_sprite (x : Bool) : (s.setInExecute x).sprite = s.sprite := rfl
@[simp] theorem State.setInExecute_in0 (x : Bool) : (s.setInExecute x).in0 = s.in0 := rfl
@[simp] theorem State.setInExecute_in1 (x : Bool) : (s.setInExecute x).in1 = s.in1 := rfl
@[simp] theorem State.setInExecute_frameCount (x : Bool) : (s.setInExecute x).frameCount = s.frameCount := rfl
@[simp] theorem State.setInExecute_romLoaded (x : Bool) : (s.setInExecute x).romLoaded = s.romLoaded := rfl
@[simp] theorem State.setInExecute_fault (x : Bool) : (s.setInExecute x).fault = s.fault := rfl
@[simp] theorem State.setInExecute_refused (x : Bool) : (s.setInExecute x).refused = s.refused := rfl
@[simp] theorem State.setInExecute_cpuOut (x : Bool) : (s.setInExecute x).cpuOut = s.cpuOut := rfl
@[simp] theorem State.setInExecute_cfg (x : Bool) : (s.setInExecute x).cfg = s.cfg := rfl
@[simp] theorem State.setInExecute_inExecute (x : Bool) : (s.setInExecute x).inExecute = x := rfl
@[simp] theorem State.setInExecute_image (x : Bool) : (s.setInExecute x).image = s.image := rfl
@[simp] theorem State.setInExecute_draw (x : Bool) : (s.setInExecute x).draw = s.draw := rfl
@[simp] theorem State.setInExecute_pending (x : Bool) : (s.setInExecute x).pending = s.pending := rfl
@[simp] theorem State.setInExecute_response (x : Bool) : (s.setInExecute x).response = s.response := rfl
@[simp] theorem State.setInExecute_received (x : Bool) : (s.setInExecute x).received = s.received := rfl

@[simp] theorem State.setReceived_sched (x : List Byte) : (s.setReceived x).sched = s.sched := rfl
@[simp] theorem State.setReceived_ready (x : List Byte) : (s.setReceived x).ready = s.ready := rfl
@[simp] theorem State.setReceived_regions (x : List Byte) : (s.setReceived x).regions = s.regions := rfl
@[simp] theorem State.setReceived_pages (x : List Byte) : (s.setReceived x).pages = s.pages := rfl
@[simp] theorem State.setReceived_ie (x : List Byte) : (s.setReceived x).ie = s.ie := rfl
@[simp] theorem State.setReceived_flip (x : List Byte) : (s.setReceived x).flip = s.flip := rfl
@[simp] theorem State.setReceived_sprite (x : List Byte) : (s.setReceived x).sprite = s.sprite := rfl
@[simp] theorem State.setReceived_in0 (x : List Byte) : (s.setReceived x).in0 = s.in0 := rfl
@[simp] theorem State.setReceived_in1 (x : List Byte) : (s.setReceived x).in1 = s.in1 := rfl
@[simp] theorem State.setReceived_frameCount (x : List Byte) : (s.setReceived x).frameCount = s.frameCount := rfl
@[simp] theorem State.setReceived_romLoaded (x : List Byte) : (s.setReceived x).romLoaded = s.romLoaded := rfl
@[simp] theorem State.setReceived_fault (x : List Byte) : (s.setReceived x).fault = s.fault := rfl
@[simp] theorem State.setReceived_refused (x : List Byte) : (s.setReceived x).refused = s.refused := rfl
@[simp] theorem State.setReceived_cpuOut (x : List Byte) : (s.setReceived x).cpuOut = s.cpuOut := rfl
@[simp] theorem State.setReceived_cfg (x : List Byte) : (s.setReceived x).cfg = s.cfg := rfl
@[simp] theorem State.setReceived_inExecute (x : List Byte) : (s.setReceived x).inExecute = s.inExecute := rfl
@[simp] theorem State.setReceived_image (x : List Byte) : (s.setReceived x).image = s.image := rfl
@[simp] theorem State.setReceived_draw (x : List Byte) : (s.setReceived x).draw = s.draw := rfl
@[simp] theorem State.setReceived_pending (x : List Byte) : (s.setReceived x).pending = s.pending := rfl
@[simp] theorem State.setReceived_response (x : List Byte) : (s.setReceived x).response = s.response := rfl
@[simp] theorem State.setReceived_received (x : List Byte) : (s.setReceived x).received = x := rfl

@[simp] theorem State.reply_sched (v : Value) : (s.reply v).sched = s.sched := rfl
@[simp] theorem State.reply_ready (v : Value) : (s.reply v).ready = s.ready := rfl
@[simp] theorem State.reply_regions (v : Value) : (s.reply v).regions = s.regions := rfl
@[simp] theorem State.reply_pages (v : Value) : (s.reply v).pages = s.pages := rfl
@[simp] theorem State.reply_ie (v : Value) : (s.reply v).ie = s.ie := rfl
@[simp] theorem State.reply_flip (v : Value) : (s.reply v).flip = s.flip := rfl
@[simp] theorem State.reply_sprite (v : Value) : (s.reply v).sprite = s.sprite := rfl
@[simp] theorem State.reply_in0 (v : Value) : (s.reply v).in0 = s.in0 := rfl
@[simp] theorem State.reply_in1 (v : Value) : (s.reply v).in1 = s.in1 := rfl
@[simp] theorem State.reply_frameCount (v : Value) : (s.reply v).frameCount = s.frameCount := rfl
@[simp] theorem State.reply_romLoaded (v : Value) : (s.reply v).romLoaded = s.romLoaded := rfl
@[simp] theorem State.reply_fault (v : Value) : (s.reply v).fault = s.fault := rfl
@[simp] theorem State.reply_refused (v : Value) : (s.reply v).refused = s.refused := rfl
@[simp] theorem State.reply_cpuOut (v : Value) : (s.reply v).cpuOut = s.cpuOut := rfl
@[simp] theorem State.reply_cfg (v : Value) : (s.reply v).cfg = s.cfg := rfl
@[simp] theorem State.reply_inExecute (v : Value) : (s.reply v).inExecute = s.inExecute := rfl
@[simp] theorem State.reply_image (v : Value) : (s.reply v).image = s.image := rfl
@[simp] theorem State.reply_draw (v : Value) : (s.reply v).draw = s.draw := rfl
@[simp] theorem State.reply_pending (v : Value) : (s.reply v).pending = s.pending := rfl
@[simp] theorem State.reply_response (v : Value) : (s.reply v).response = some (.ok v) := rfl
@[simp] theorem State.reply_received (v : Value) : (s.reply v).received = s.received := rfl

@[simp] theorem State.fail_sched (e : Err) : (s.fail e).sched = s.sched := rfl
@[simp] theorem State.fail_ready (e : Err) : (s.fail e).ready = s.ready := rfl
@[simp] theorem State.fail_regions (e : Err) : (s.fail e).regions = s.regions := rfl
@[simp] theorem State.fail_pages (e : Err) : (s.fail e).pages = s.pages := rfl
@[simp] theorem State.fail_ie (e : Err) : (s.fail e).ie = s.ie := rfl
@[simp] theorem State.fail_flip (e : Err) : (s.fail e).flip = s.flip := rfl
@[simp] theorem State.fail_sprite (e : Err) : (s.fail e).sprite = s.sprite := rfl
@[simp] theorem State.fail_in0 (e : Err) : (s.fail e).in0 = s.in0 := rfl
@[simp] theorem State.fail_in1 (e : Err) : (s.fail e).in1 = s.in1 := rfl
@[simp] theorem State.fail_frameCount (e : Err) : (s.fail e).frameCount = s.frameCount := rfl
@[simp] theorem State.fail_romLoaded (e : Err) : (s.fail e).romLoaded = s.romLoaded := rfl
@[simp] theorem State.fail_fault (e : Err) : (s.fail e).fault = s.fault := rfl
@[simp] theorem State.fail_refused (e : Err) : (s.fail e).refused = s.refused := rfl
@[simp] theorem State.fail_cpuOut (e : Err) : (s.fail e).cpuOut = s.cpuOut := rfl
@[simp] theorem State.fail_cfg (e : Err) : (s.fail e).cfg = s.cfg := rfl
@[simp] theorem State.fail_inExecute (e : Err) : (s.fail e).inExecute = s.inExecute := rfl
@[simp] theorem State.fail_image (e : Err) : (s.fail e).image = s.image := rfl
@[simp] theorem State.fail_draw (e : Err) : (s.fail e).draw = s.draw := rfl
@[simp] theorem State.fail_pending (e : Err) : (s.fail e).pending = s.pending := rfl
@[simp] theorem State.fail_response (e : Err) : (s.fail e).response = some (.err e) := rfl
@[simp] theorem State.fail_received (e : Err) : (s.fail e).received = s.received := rfl

@[simp] theorem State.raiseFault_sched (f : Fault) : (s.raiseFault f).sched = s.sched := rfl
@[simp] theorem State.raiseFault_ready (f : Fault) : (s.raiseFault f).ready = s.ready := rfl
@[simp] theorem State.raiseFault_regions (f : Fault) : (s.raiseFault f).regions = s.regions := rfl
@[simp] theorem State.raiseFault_pages (f : Fault) : (s.raiseFault f).pages = s.pages := rfl
@[simp] theorem State.raiseFault_ie (f : Fault) : (s.raiseFault f).ie = s.ie := rfl
@[simp] theorem State.raiseFault_flip (f : Fault) : (s.raiseFault f).flip = s.flip := rfl
@[simp] theorem State.raiseFault_sprite (f : Fault) : (s.raiseFault f).sprite = s.sprite := rfl
@[simp] theorem State.raiseFault_in0 (f : Fault) : (s.raiseFault f).in0 = s.in0 := rfl
@[simp] theorem State.raiseFault_in1 (f : Fault) : (s.raiseFault f).in1 = s.in1 := rfl
@[simp] theorem State.raiseFault_frameCount (f : Fault) : (s.raiseFault f).frameCount = s.frameCount := rfl
@[simp] theorem State.raiseFault_romLoaded (f : Fault) : (s.raiseFault f).romLoaded = s.romLoaded := rfl
@[simp] theorem State.raiseFault_fault (f : Fault) : (s.raiseFault f).fault = some f := rfl
@[simp] theorem State.raiseFault_refused (f : Fault) : (s.raiseFault f).refused = s.refused := rfl
@[simp] theorem State.raiseFault_cpuOut (f : Fault) : (s.raiseFault f).cpuOut = s.cpuOut := rfl
@[simp] theorem State.raiseFault_cfg (f : Fault) : (s.raiseFault f).cfg = s.cfg := rfl
@[simp] theorem State.raiseFault_inExecute (f : Fault) : (s.raiseFault f).inExecute = s.inExecute := rfl
@[simp] theorem State.raiseFault_image (f : Fault) : (s.raiseFault f).image = s.image := rfl
@[simp] theorem State.raiseFault_draw (f : Fault) : (s.raiseFault f).draw = s.draw := rfl
@[simp] theorem State.raiseFault_pending (f : Fault) : (s.raiseFault f).pending = s.pending := rfl
@[simp] theorem State.raiseFault_response (f : Fault) : (s.raiseFault f).response = none := rfl
@[simp] theorem State.raiseFault_received (f : Fault) : (s.raiseFault f).received = s.received := rfl

@[simp] theorem State.refuse_sched : (s.refuse).sched = s.sched := rfl
@[simp] theorem State.refuse_ready : (s.refuse).ready = s.ready := rfl
@[simp] theorem State.refuse_regions : (s.refuse).regions = s.regions := rfl
@[simp] theorem State.refuse_pages : (s.refuse).pages = s.pages := rfl
@[simp] theorem State.refuse_ie : (s.refuse).ie = s.ie := rfl
@[simp] theorem State.refuse_flip : (s.refuse).flip = s.flip := rfl
@[simp] theorem State.refuse_sprite : (s.refuse).sprite = s.sprite := rfl
@[simp] theorem State.refuse_in0 : (s.refuse).in0 = s.in0 := rfl
@[simp] theorem State.refuse_in1 : (s.refuse).in1 = s.in1 := rfl
@[simp] theorem State.refuse_frameCount : (s.refuse).frameCount = s.frameCount := rfl
@[simp] theorem State.refuse_romLoaded : (s.refuse).romLoaded = s.romLoaded := rfl
@[simp] theorem State.refuse_fault : (s.refuse).fault = s.fault := rfl
@[simp] theorem State.refuse_refused : (s.refuse).refused = true := rfl
@[simp] theorem State.refuse_cpuOut : (s.refuse).cpuOut = s.cpuOut := rfl
@[simp] theorem State.refuse_cfg : (s.refuse).cfg = s.cfg := rfl
@[simp] theorem State.refuse_inExecute : (s.refuse).inExecute = s.inExecute := rfl
@[simp] theorem State.refuse_image : (s.refuse).image = s.image := rfl
@[simp] theorem State.refuse_draw : (s.refuse).draw = s.draw := rfl
@[simp] theorem State.refuse_pending : (s.refuse).pending = s.pending := rfl
@[simp] theorem State.refuse_response : (s.refuse).response = none := rfl
@[simp] theorem State.refuse_received : (s.refuse).received = s.received := rfl

@[simp] theorem State.emit_sched (e : CoreCall) : (s.emit e).sched = s.sched := rfl
@[simp] theorem State.emit_ready (e : CoreCall) : (s.emit e).ready = s.ready := rfl
@[simp] theorem State.emit_regions (e : CoreCall) : (s.emit e).regions = s.regions := rfl
@[simp] theorem State.emit_pages (e : CoreCall) : (s.emit e).pages = s.pages := rfl
@[simp] theorem State.emit_ie (e : CoreCall) : (s.emit e).ie = s.ie := rfl
@[simp] theorem State.emit_flip (e : CoreCall) : (s.emit e).flip = s.flip := rfl
@[simp] theorem State.emit_sprite (e : CoreCall) : (s.emit e).sprite = s.sprite := rfl
@[simp] theorem State.emit_in0 (e : CoreCall) : (s.emit e).in0 = s.in0 := rfl
@[simp] theorem State.emit_in1 (e : CoreCall) : (s.emit e).in1 = s.in1 := rfl
@[simp] theorem State.emit_frameCount (e : CoreCall) : (s.emit e).frameCount = s.frameCount := rfl
@[simp] theorem State.emit_romLoaded (e : CoreCall) : (s.emit e).romLoaded = s.romLoaded := rfl
@[simp] theorem State.emit_fault (e : CoreCall) : (s.emit e).fault = s.fault := rfl
@[simp] theorem State.emit_refused (e : CoreCall) : (s.emit e).refused = s.refused := rfl
@[simp] theorem State.emit_cpuOut (e : CoreCall) : (s.emit e).cpuOut = s.cpuOut ++ [e] := rfl
@[simp] theorem State.emit_cfg (e : CoreCall) : (s.emit e).cfg = s.cfg := rfl
@[simp] theorem State.emit_inExecute (e : CoreCall) : (s.emit e).inExecute = s.inExecute := rfl
@[simp] theorem State.emit_image (e : CoreCall) : (s.emit e).image = s.image := rfl
@[simp] theorem State.emit_draw (e : CoreCall) : (s.emit e).draw = s.draw := rfl
@[simp] theorem State.emit_pending (e : CoreCall) : (s.emit e).pending = s.pending := rfl
@[simp] theorem State.emit_response (e : CoreCall) : (s.emit e).response = s.response := rfl
@[simp] theorem State.emit_received (e : CoreCall) : (s.emit e).received = s.received := rfl

@[simp] theorem State.submit_sched (c : Submission) : (s.submit c).sched = s.sched := rfl
@[simp] theorem State.submit_ready (c : Submission) : (s.submit c).ready = s.ready := rfl
@[simp] theorem State.submit_regions (c : Submission) : (s.submit c).regions = s.regions := rfl
@[simp] theorem State.submit_pages (c : Submission) : (s.submit c).pages = s.pages := rfl
@[simp] theorem State.submit_ie (c : Submission) : (s.submit c).ie = s.ie := rfl
@[simp] theorem State.submit_flip (c : Submission) : (s.submit c).flip = s.flip := rfl
@[simp] theorem State.submit_sprite (c : Submission) : (s.submit c).sprite = s.sprite := rfl
@[simp] theorem State.submit_in0 (c : Submission) : (s.submit c).in0 = s.in0 := rfl
@[simp] theorem State.submit_in1 (c : Submission) : (s.submit c).in1 = s.in1 := rfl
@[simp] theorem State.submit_frameCount (c : Submission) : (s.submit c).frameCount = s.frameCount := rfl
@[simp] theorem State.submit_romLoaded (c : Submission) : (s.submit c).romLoaded = s.romLoaded := rfl
@[simp] theorem State.submit_fault (c : Submission) : (s.submit c).fault = s.fault := rfl
@[simp] theorem State.submit_refused (c : Submission) : (s.submit c).refused = s.refused := rfl
@[simp] theorem State.submit_cpuOut (c : Submission) : (s.submit c).cpuOut = s.cpuOut := rfl
@[simp] theorem State.submit_cfg (c : Submission) : (s.submit c).cfg = s.cfg := rfl
@[simp] theorem State.submit_inExecute (c : Submission) : (s.submit c).inExecute = s.inExecute := rfl
@[simp] theorem State.submit_image (c : Submission) : (s.submit c).image = s.image := rfl
@[simp] theorem State.submit_draw (c : Submission) : (s.submit c).draw = s.draw := rfl
@[simp] theorem State.submit_pending (c : Submission) : (s.submit c).pending = c :: s.pending := rfl
@[simp] theorem State.submit_response (c : Submission) : (s.submit c).response = s.response := rfl
@[simp] theorem State.submit_received (c : Submission) : (s.submit c).received = s.received := rfl

@[simp] theorem State.setRegion_sched (r : RegionId) (x : Option Region) : (s.setRegion r x).sched = s.sched := rfl
@[simp] theorem State.setRegion_ready (r : RegionId) (x : Option Region) : (s.setRegion r x).ready = s.ready := rfl
@[simp] theorem State.setRegion_regions (r : RegionId) (x : Option Region) : (s.setRegion r x).regions = Sparse.write none s.regions r.toNat x := rfl
@[simp] theorem State.setRegion_pages (r : RegionId) (x : Option Region) : (s.setRegion r x).pages = s.pages := rfl
@[simp] theorem State.setRegion_ie (r : RegionId) (x : Option Region) : (s.setRegion r x).ie = s.ie := rfl
@[simp] theorem State.setRegion_flip (r : RegionId) (x : Option Region) : (s.setRegion r x).flip = s.flip := rfl
@[simp] theorem State.setRegion_sprite (r : RegionId) (x : Option Region) : (s.setRegion r x).sprite = s.sprite := rfl
@[simp] theorem State.setRegion_in0 (r : RegionId) (x : Option Region) : (s.setRegion r x).in0 = s.in0 := rfl
@[simp] theorem State.setRegion_in1 (r : RegionId) (x : Option Region) : (s.setRegion r x).in1 = s.in1 := rfl
@[simp] theorem State.setRegion_frameCount (r : RegionId) (x : Option Region) : (s.setRegion r x).frameCount = s.frameCount := rfl
@[simp] theorem State.setRegion_romLoaded (r : RegionId) (x : Option Region) : (s.setRegion r x).romLoaded = s.romLoaded := rfl
@[simp] theorem State.setRegion_fault (r : RegionId) (x : Option Region) : (s.setRegion r x).fault = s.fault := rfl
@[simp] theorem State.setRegion_refused (r : RegionId) (x : Option Region) : (s.setRegion r x).refused = s.refused := rfl
@[simp] theorem State.setRegion_cpuOut (r : RegionId) (x : Option Region) : (s.setRegion r x).cpuOut = s.cpuOut := rfl
@[simp] theorem State.setRegion_cfg (r : RegionId) (x : Option Region) : (s.setRegion r x).cfg = s.cfg := rfl
@[simp] theorem State.setRegion_inExecute (r : RegionId) (x : Option Region) : (s.setRegion r x).inExecute = s.inExecute := rfl
@[simp] theorem State.setRegion_image (r : RegionId) (x : Option Region) : (s.setRegion r x).image = s.image := rfl
@[simp] theorem State.setRegion_draw (r : RegionId) (x : Option Region) : (s.setRegion r x).draw = s.draw := rfl
@[simp] theorem State.setRegion_pending (r : RegionId) (x : Option Region) : (s.setRegion r x).pending = s.pending := rfl
@[simp] theorem State.setRegion_response (r : RegionId) (x : Option Region) : (s.setRegion r x).response = s.response := rfl
@[simp] theorem State.setRegion_received (r : RegionId) (x : Option Region) : (s.setRegion r x).received = s.received := rfl

end Sys2Proof.Machine
end

