-- ==== Sys2Proof/Laws/Ops.lean ====
section
/-! SUPPORT. One lemma per shared operation that says what it can do. -/

namespace Sys2Proof.Machine

variable {s t : State}

/-! ### Addresses -/

@[simp] theorem pageOf_eq (a : Addr) : pageOf a = a.toNat / 256 := by
  have := a.isLt
  simp only [pageOf, BitVec.extractLsb'_toNat, Nat.shiftRight_eq_div_pow]; omega

@[simp] theorem offsetOf_eq (a : Addr) : offsetOf a = a.toNat % 256 := by
  simp [offsetOf, BitVec.extractLsb'_toNat]

theorem inWindow_iff (w : Window) (a : Addr) :
    inWindow w a = true ↔ w.lo.toNat ≤ a.toNat ∧ a.toNat ≤ w.hi.toNat := by simp [inWindow]

/-! ### How a command begins -/

/-- Without a fault a command runs its body. -/
theorem State.command_of_fault_none (h : s.fault = none) (f : State → State) : s.command f = f s := by
  simp [State.command, h]

/-- A command is refused, or there is no fault and it runs its body. -/
theorem State.command_cases (s : State) (f : State → State) :
    (s.fault ≠ none ∧ s.command f = s.refuse) ∨ (s.fault = none ∧ s.command f = f s) := by
  unfold State.command
  cases h : s.fault <;> simp

/-- In HaltedError StateError, else the body. -/
theorem State.unlessHalted_cases (s : State) (f : State → State) :
    (s.sched = .haltedError ∧ s.unlessHalted f = s.fail .state) ∨
    (s.sched ≠ .haltedError ∧ s.unlessHalted f = f s) := by
  unfold State.unlessHalted
  split_ifs with h
  · exact .inl ⟨h, rfl⟩
  · exact .inr ⟨h, rfl⟩

/-- Not ready or in HaltedError StateError, else the body. -/
theorem State.whenReady_cases (s : State) (f : State → State) :
    ((s.ready = false ∨ s.sched = .haltedError) ∧ s.whenReady f = s.fail .state) ∨
    (s.ready = true ∧ s.sched ≠ .haltedError ∧ s.whenReady f = f s) := by
  unfold State.whenReady
  split_ifs with h <;> simp_all

/-! ### Regions and bytes -/

theorem State.region_setRegion (s : State) (r q : RegionId) (x : Option Region) :
    (s.setRegion r x).region q = if r = q then x else s.region q := by
  simp only [State.region, State.setRegion_regions, Sparse.read_write, BitVec.toNat_inj]

@[simp] theorem State.region_setRegion_same (s : State) (r : RegionId) (x : Option Region) :
    (s.setRegion r x).region r = x := by simp [State.region_setRegion]

/-- The regions decide every byte. -/
theorem State.byteAt_congr (h : t.regions = s.regions) : t.byteAt = s.byteAt := by
  funext r i; simp only [State.byteAt, State.region, h]

theorem State.region_congr (h : t.regions = s.regions) : t.region = s.region := by
  funext r; simp only [State.region, h]

theorem State.page_congr (h : t.pages = s.pages) : t.page = s.page := by
  funext p; simp only [State.page, h]

theorem State.translate_congr (h : t.pages = s.pages) : t.translate = s.translate := by
  funext a; simp only [State.translate, State.page, h]

/-- Storing a byte: the state is unchanged but for the regions. -/
theorem State.putByte_eq (s : State) (r : RegionId) (i : Nat) (v : Byte) :
    s.putByte r i v = { s with regions := (s.putByte r i v).regions } := by
  unfold State.putByte
  split
  · split_ifs <;> rfl
  · rfl

/-- Storing a byte that exists changes that byte and no other. -/
theorem State.byteAt_putByte (s : State) (r : RegionId) (i : Nat) (v : Byte) (q : RegionId) (j : Nat) :
    (s.putByte r i v).byteAt q j =
      if (q, j) = (r, i) then (s.byteAt r i).map (fun _ => v) else s.byteAt q j := by
  unfold State.putByte
  cases hR : s.region r with
  | none =>
    simp only [State.byteAt, hR, Option.map_none]
    split_ifs with h
    · simp only [Prod.mk.injEq] at h; simp [h.1, hR]
    · rfl
  | some R =>
    by_cases hi : i < R.size
    · simp only [hi, if_true, State.byteAt, State.region_setRegion, hR, Prod.mk.injEq, Option.map_some]
      by_cases hq : r = q
      · subst hq
        simp only [if_true, true_and, Memory.read_write]
        by_cases hj : j = i
        · subst hj; simp [hi]
        · simp [hj, Ne.symm hj, hR]
      · simp [hq, Ne.symm hq]
    · simp only [hi, if_false, State.byteAt, hR, Prod.mk.injEq]
      split_ifs with h
      · obtain ⟨rfl, rfl⟩ := h; simp [hR, hi]
      · rfl

/-- Storing a byte keeps every region's size. -/
theorem State.size_putByte (s : State) (r : RegionId) (i : Nat) (v : Byte) (q : RegionId) :
    ((s.putByte r i v).region q).map Region.size = (s.region q).map Region.size := by
  unfold State.putByte
  cases hR : s.region r with
  | none => rfl
  | some R =>
    by_cases hi : i < R.size
    · simp only [hi, if_true, State.region_setRegion]
      split_ifs with h
      · subst h; simp [hR]
      · rfl
    · simp [hi]

/-! ### The allocator -/

/-- What ALLOC past its state check does (40_address_space_ops.md R141). -/
theorem State.alloc_eq_some {r : RegionId} {n : Nat} :
    s.alloc r n = some t ↔ s.region r = none ∧ n ≠ 0 ∧ n ≤ Config.maxRegionSize ∧
      s.liveCount < s.cfg.maxRegions ∧ t = s.setRegion r (some ⟨n, Memory.zero, ""⟩) := by
  unfold State.alloc
  split_ifs with h1 h2 h3
  · simp only [false_iff]; rintro ⟨h, -⟩; simp [h] at h1
  · simp only [false_iff]; rintro ⟨-, h, h', -⟩; omega
  · simp only [false_iff]; rintro ⟨-, -, -, h, -⟩; omega
  · have h0 : s.region r = none := by simpa using h1
    simp only [Option.some.injEq, h0, true_and]
    constructor
    · rintro rfl; exact ⟨by omega, by omega, by omega, rfl⟩
    · rintro ⟨-, -, -, rfl⟩; rfl

theorem State.alloc_eq_none {r : RegionId} {n : Nat} :
    s.alloc r n = none ↔ s.region r ≠ none ∨ n = 0 ∨ Config.maxRegionSize < n ∨ s.cfg.maxRegions ≤ s.liveCount := by
  unfold State.alloc
  split_ifs with h1 h2 h3
  · simp only [true_iff]; left; simpa [Option.isSome_iff_ne_none] using h1
  · simp only [true_iff]; tauto
  · simp only [true_iff]; tauto
  · simp only [false_iff, not_or]
    have h0 : s.region r = none := by simpa using h1
    exact ⟨by simp [h0], by tauto, by tauto, h3⟩

/-- A region that was not live makes one more live region. -/
theorem State.liveCount_setRegion_new {r : RegionId} (h : s.region r = none) (R : Region) :
    (s.setRegion r (some R)).liveCount = s.liveCount + 1 := by
  simp only [State.liveCount, State.liveRegions, State.setRegion_regions, State.region] at h ⊢
  unfold Sparse.write
  simp only [reduceCtorEq, if_false]
  generalize s.regions = l at h ⊢
  induction l with
  | nil => rfl
  | cons e l ih =>
    obtain ⟨j, x⟩ := e
    simp only [Sparse.read_cons] at h
    simp only [Sparse.insert]
    split_ifs with h1 h2
    · simp
    · simp only [h2, if_true] at h; subst h; simp
    · simp only [h2, if_false] at h
      have := ih h
      cases x <;> simp_all

/-! ### The page table -/

theorem State.page_setPages (s : State) (x : Sparse PageDesc) (p : Nat) :
    (s.setPages x).page p = Sparse.read .unmapped x p := rfl

/-- The pages after a MAP's loop (40_address_space_ops.md R145). -/
theorem read_mapPages (r : RegionId) (ro : Bool) (start n p : Nat) (l : Sparse PageDesc) (q : Nat) :
    Sparse.read .unmapped (mapPages r ro start n p l) q =
      if p ≤ q ∧ q < p + n then .mapped r (q * 256 - start) ro else Sparse.read .unmapped l q := by
  induction n generalizing p l with
  | zero => simp only [mapPages]; rw [if_neg (by omega)]
  | succ n ih =>
    simp only [mapPages, ih, Sparse.read_write]
    by_cases h : p = q
    · subst h; rw [if_neg (by omega), if_pos rfl, if_pos (by omega)]
    · by_cases h' : p + 1 ≤ q ∧ q < p + 1 + n
      · rw [if_pos h', if_pos (by omega)]
      · rw [if_neg h', if_neg h, if_neg (by omega)]

/-- The pages after the loop of FREE over the pages `ps` (40_address_space_ops.md R142). -/
theorem read_unmapPages_of_mem (r : RegionId) (ps : List Nat) (l : Sparse PageDesc) (q : Nat) :
    Sparse.read .unmapped (unmapPages r ps l) q =
      if q ∈ ps ∧ refersTo r (Sparse.read .unmapped l q) = true then .unmapped else Sparse.read .unmapped l q := by
  induction ps generalizing l with
  | nil => simp [unmapPages]
  | cons p ps ih =>
    simp only [unmapPages, ih, List.mem_cons]
    by_cases hp : refersTo r (Sparse.read .unmapped l p) = true
    · simp only [hp, if_true, Sparse.read_write]
      by_cases hq : p = q
      · subst hq
        rw [if_pos rfl, if_pos (And.intro (Or.inl rfl) hp), ite_self]
      · simp [hq, Ne.symm hq]
    · simp only [hp, Bool.false_eq_true, if_false]
      by_cases hq : q = p
      · subst hq; simp [hp]
      · simp [hq]

/-- The pages after FREE's loop: those that referred to the region are Unmapped (40_address_space_ops.md R142). -/
theorem read_unmapPages (r : RegionId) (l : Sparse PageDesc) (q : Nat) :
    Sparse.read .unmapped (unmapPages r (l.map Prod.fst) l) q =
      if refersTo r (Sparse.read .unmapped l q) = true then .unmapped else Sparse.read .unmapped l q := by
  rw [read_unmapPages_of_mem]
  by_cases h : Sparse.read .unmapped l q = .unmapped
  · simp [h]
  · have := List.mem_map_of_mem (f := Prod.fst) (Sparse.mem_of_read _ _ _ h)
    simp only [this, true_and]

/-- Translate over natural numbers (40_address_space_ops.md R146). -/
theorem State.translate_eq (s : State) (a : Addr) :
    s.translate a = match s.page (a.toNat / 256) with
      | .unmapped => none
      | .mapped r off ro => some (r, off + a.toNat % 256, ro) := by
  cases h : s.page (a.toNat / 256) <;> simp only [State.translate, pageOf_eq, offsetOf_eq, h]

/-- FREE past its state check changes only the regions and the pages. -/
theorem State.release_eq (s : State) (r : RegionId) :
    s.release r = { s with regions := (s.release r).regions, pages := (s.release r).pages } := by
  unfold State.release; split <;> rfl

/-- FREE drops its region and no other (40_address_space_ops.md R142). -/
theorem State.region_release (s : State) (r q : RegionId) :
    (s.release r).region q = if r = q then none else s.region q := by
  unfold State.release
  split
  · rename_i h; split_ifs with hq
    · subst hq; exact h
    · rfl
  · simp only [State.region_setRegion]; rfl

/-- The pages after FREE of a live region (40_address_space_ops.md R142). -/
theorem State.page_release {r : RegionId} (h : s.region r ≠ none) (q : Nat) :
    (s.release r).page q = if refersTo r (s.page q) = true then .unmapped else s.page q := by
  unfold State.release
  split
  · contradiction
  · exact read_unmapPages r s.pages q

/-- FREE of a region that is not live changes nothing (40_address_space_ops.md R142). -/
theorem State.release_of_none {r : RegionId} (h : s.region r = none) : s.release r = s := by
  unfold State.release; simp [h]

/-- What MAP past its state check does (40_address_space_ops.md R145). -/
theorem State.mapRange_cases (s : State) (r : RegionId) (lo hi : Addr) (ro : Bool) :
    ((s.region r = none ∨ lo.toNat % 256 ≠ 0 ∨ hi.toNat % 256 ≠ 255 ∨ hi.toNat < lo.toNat ∨
        ∃ R, s.region r = some R ∧ R.size < hi.toNat - lo.toNat + 1) ∧ s.mapRange r lo hi ro = none) ∨
    (∃ R l, s.region r = some R ∧ lo.toNat % 256 = 0 ∧ hi.toNat % 256 = 255 ∧ lo.toNat ≤ hi.toNat ∧
      hi.toNat - lo.toNat + 1 ≤ R.size ∧ s.mapRange r lo hi ro = some (s.setPages l) ∧
      l = mapPages r ro lo.toNat (rangePages lo hi) (pageNumber lo) s.pages) := by
  unfold State.mapRange
  cases hR : s.region r with
  | none => simp
  | some R =>
    have ha : rangeAligned lo hi = true ↔ lo.toNat % 256 = 0 ∧ hi.toNat % 256 = 255 := by
      simp [rangeAligned]
    simp only [Option.some.injEq, exists_eq_left', reduceCtorEq, false_or]
    by_cases h1 : rangeAligned lo hi = true
    · have h1' := ha.1 h1
      simp only [h1, Bool.not_true, Bool.false_eq_true, if_false]
      by_cases h2 : hi.toNat < lo.toNat
      · exact .inl ⟨by omega, if_pos h2⟩
      · simp only [h2, if_false, rangeLength]
        by_cases h3 : R.size < hi.toNat - lo.toNat + 1
        · exact .inl ⟨by omega, if_pos h3⟩
        · exact .inr ⟨R, _, rfl, h1'.1, h1'.2, by omega, by omega, if_neg h3, rfl⟩
    · have h1' := mt ha.2 h1
      exact .inl ⟨by omega, by simp [h1]⟩

/-! ### The driver's dispatch -/

/-- ASWrite changes nothing, or stores the one byte at its target (40_address_space_ops.md R148). -/
theorem State.asWrite_cases (s : State) (a : Addr) (v : Byte) :
    (s.storeTarget a = none ∧ s.asWrite a v = s) ∨
    (∃ r i, s.storeTarget a = some (r, i) ∧ s.asWrite a v = s.putByte r i v) := by
  unfold State.asWrite
  split
  · rename_i r i h; exact .inr ⟨r, i, h, rfl⟩
  · rename_i h; exact .inl ⟨h, rfl⟩

/-- What a driver write that does not fault can do (41_driver_bus.md R182, R184). -/
theorem State.memWrite_cases {a : Addr} {v : Byte} (h : s.memWrite a v = some t) :
    t = s ∨
    (∃ p, p ≠ Plane.rom ∧ decodeAddr s.cfg a = .backed p ∧ s.checkBacked p a = true ∧ t = s.asWrite a v) ∨
    (decodeAddr s.cfg a = .io ∧ t = s.ioWrite a v) := by
  unfold State.memWrite at h
  split at h
  · split_ifs at h; simp_all
  · rename_i hd
    split_ifs at h with hc
    exact .inr (.inl ⟨.vram, by decide, hd, hc, by simpa using h.symm⟩)
  · rename_i hd
    split_ifs at h with hc
    exact .inr (.inl ⟨.cram, by decide, hd, hc, by simpa using h.symm⟩)
  · rename_i hd
    split_ifs at h with hc
    exact .inr (.inl ⟨.wram, by decide, hd, hc, by simpa using h.symm⟩)
  · rename_i hd; exact .inr (.inr ⟨hd, by simpa using h.symm⟩)
  · exact .inl (by simpa using h.symm)

/-- What an I/O write can do (41_driver_bus.md R184). -/
theorem State.ioWrite_cases (s : State) (a : Addr) (v : Byte) :
    s.ioWrite a v = s ∨ s.ioWrite a v = s.setIe (bit0 v) ∨ s.ioWrite a v = s.setFlip (bit0 v) ∨
      s.ioWrite a v = s.latchSprite (spriteSlot s.cfg a) v := by
  unfold State.ioWrite; split_ifs <;> simp

/-- CheckBacked passes exactly where the page is mapped to the window's own region at its own offset
(41_driver_bus.md R187). -/
theorem State.checkBacked_iff (s : State) (p : Plane) (a : Addr) :
    s.checkBacked p a = true ↔ ∃ ro, s.Backs p a ro := by
  simp only [State.checkBacked, State.translate_eq, State.Backs]
  cases h : s.page (a.toNat / 256) with
  | unmapped => simp
  | mapped r off ro =>
    simp only [Bool.and_eq_true, beq_iff_eq, PageDesc.mapped.injEq]
    constructor
    · rintro ⟨h1, h2⟩; exact ⟨ro, off, ⟨h1, rfl, rfl⟩, h2⟩
    · rintro ⟨_, _, ⟨h1, rfl, -⟩, h2⟩; exact ⟨h1, h2⟩

/-- A transaction of the core: a read's answer, a write's state, or the fault. -/
theorem State.perform_cases (s : State) (op : BusOp) :
    (∃ a b, op = .read a ∧ s.perform op = (s.setReceived (s.received ++ [b])).reply (.byte b)) ∨
    (∃ a v t, op = .write a v ∧ s.memWrite a v = some t ∧ s.perform op = t.reply .none) ∨
    (∃ a, s.perform op = s.raiseFault (.decodeInvariant a)) := by
  cases op with
  | read a =>
    simp only [State.perform, State.coreRead]
    cases h : s.memRead a with
    | none => exact .inr (.inr ⟨a, rfl⟩)
    | some b => exact .inl ⟨a, b, rfl, rfl⟩
  | write a v =>
    simp only [State.perform, State.busWrite]
    cases h : s.memWrite a v with
    | none => exact .inr (.inr ⟨a, rfl⟩)
    | some t => exact .inr (.inl ⟨a, v, t, rfl, h, rfl⟩)

/-- A property every transaction keeps, the core's whole traffic keeps. -/
theorem State.runBody_induct (P : State → Prop) (step : ∀ s op, P s → P (s.perform op)) (ops : List BusOp)
    (s : State) (h : P s) : P (s.runBody ops) := by
  induction ops generalizing s with
  | nil => exact h
  | cons op ops ih =>
    simp only [State.runBody]
    split_ifs
    · exact step s op h
    · exact ih _ (step s op h)

end Sys2Proof.Machine
end

