-- ==== Sys2Proof/Laws/Tables.lean ====
section
/-! SUPPORT. What the shared operations keep: the table forms, the live count, the page-table invariant (10_state.md
R24, R26), and the frame of each operation as one equation. -/

namespace Sys2Proof.Machine
variable {s t : State}

/-! ### The live count -/

theorem Sparse.countLive_insert_live {l : Sparse (Option Region)} (hl : l.Pairwise fun e e' => e.1 < e'.1)
    {k : Nat} {R : Region} (h : Sparse.read none l k = some R) (R' : Region) :
    ((Sparse.insert k (some R') l).filterMap fun e => e.2).length = (l.filterMap fun e => e.2).length := by
  induction l with
  | nil => simp at h
  | cons e l ih =>
    obtain ⟨j, x⟩ := e
    obtain ⟨hj, hl⟩ := List.pairwise_cons.1 hl
    simp only [Sparse.read_cons] at h
    simp only [Sparse.insert]
    split_ifs with h1 h2
    · rw [if_neg (by omega)] at h
      have := hj _ (Sparse.mem_of_read none l k (by simp [h]))
      change j < k at this; omega
    · rw [if_pos h2] at h; subst h; simp
    · rw [if_neg h2] at h
      have := ih hl h
      cases x <;> simp_all

/-- Replacing a live region keeps the live count. -/
theorem State.liveCount_setRegion_live (hw : s.RegionsWf) {r : RegionId} {R : Region} (h : s.region r = some R)
    (R' : Region) : (s.setRegion r (some R')).liveCount = s.liveCount := by
  simp only [State.liveCount, State.liveRegions, State.setRegion_regions, Sparse.write, reduceCtorEq, if_false]
  exact Sparse.countLive_insert_live hw.1.1 h R'

/-- Dropping a region does not raise the live count. -/
theorem State.liveCount_setRegion_none (s : State) (r : RegionId) :
    (s.setRegion r none).liveCount ≤ s.liveCount := by
  simp only [State.liveCount, State.liveRegions, State.setRegion_regions, Sparse.write, if_true]
  exact (List.Sublist.filterMap _ List.filter_sublist).length_le

/-! ### The table forms -/

theorem State.regionsWf_setRegion (h : s.RegionsWf) (r : RegionId) (x : Option Region) :
    (s.setRegion r x).RegionsWf :=
  ⟨Sparse.canonical_write _ _ h.1, fun e he => by
    rcases Sparse.mem_write he with rfl | he
    · exact r.isLt
    · exact h.2 e he⟩

theorem canonical_mapPages (r : RegionId) (ro : Bool) (start n p : Nat) {l : Sparse PageDesc}
    (h : Sparse.Canonical PageDesc.unmapped l) : Sparse.Canonical PageDesc.unmapped (mapPages r ro start n p l) := by
  induction n generalizing p l with
  | zero => exact h
  | succ n ih => exact ih _ (Sparse.canonical_write _ _ h)

theorem bound_mapPages (r : RegionId) (ro : Bool) (start n p : Nat) {l : Sparse PageDesc} (hp : p + n ≤ 256)
    (h : ∀ e ∈ l, e.1 < 256) : ∀ e ∈ mapPages r ro start n p l, e.1 < 256 := by
  induction n generalizing p l with
  | zero => exact h
  | succ n ih =>
    refine ih (p + 1) (by omega) fun e he => ?_
    rcases Sparse.mem_write he with rfl | he
    · change p < 256; omega
    · exact h e he

theorem unmapPages_keeps {P : Sparse PageDesc → Prop} (hP : ∀ l p, P l → P (Sparse.write .unmapped l p .unmapped))
    (r : RegionId) (ps : List Nat) {l : Sparse PageDesc} (h : P l) : P (unmapPages r ps l) := by
  induction ps generalizing l with
  | nil => exact h
  | cons p ps ih =>
    simp only [unmapPages]
    split_ifs
    · exact ih (hP _ _ h)
    · exact ih h

theorem State.pagesWf_release (h : s.PagesWf) (r : RegionId) : (s.release r).PagesWf := by
  unfold State.release
  split
  · exact h
  · refine unmapPages_keeps (P := fun l => Sparse.Canonical PageDesc.unmapped l ∧ ∀ e ∈ l, e.1 < 256)
      (fun l p hl => ⟨Sparse.canonical_write _ _ hl.1, fun e he => ?_⟩) r _ h
    rw [Sparse.write, if_pos rfl] at he
    exact hl.2 e (List.mem_of_mem_filter he)

theorem State.regionsSized_setRegion (h : s.RegionsSized) (r : RegionId) {x : Option Region}
    (hx : ∀ R, x = some R →
      1 ≤ R.size ∧ R.size ≤ Config.maxRegionSize ∧ R.bytes.wf ∧ ∀ e ∈ R.bytes, e.1 < R.size) :
    (s.setRegion r x).RegionsSized := by
  intro q R hq
  rw [State.region_setRegion] at hq
  split_ifs at hq
  · exact hx R hq
  · exact h q R hq

/-- Every operation that keeps each live region's size, and the pages, keeps the page-table invariant. -/
theorem State.pagesBacked_of_sizes (h : s.PagesBacked) (hp : t.pages = s.pages)
    (hr : ∀ r, (t.region r).map Region.size = (s.region r).map Region.size) : t.PagesBacked := by
  intro p r off ro hpg
  rw [State.page_congr hp] at hpg
  obtain ⟨R, hR, hs⟩ := h p r off ro hpg
  have := hr r
  rw [hR] at this
  obtain ⟨R', hR', hs'⟩ := Option.map_eq_some_iff.1 this
  exact ⟨R', hR', by omega⟩

/-- What a byte store keeps. -/
structure State.Kept (s t : State) : Prop where
  sizes : ∀ r, (t.region r).map Region.size = (s.region r).map Region.size
  pages : t.pages = s.pages
  regionsWf : s.RegionsWf → t.RegionsWf
  regionsSized : s.RegionsSized → t.RegionsSized
  liveCount : s.RegionsWf → t.liveCount = s.liveCount

theorem State.Kept.of_eq (h : t.regions = s.regions) (hp : t.pages = s.pages) : State.Kept s t where
  sizes r := by rw [State.region_congr h]
  pages := hp
  regionsWf h' := by unfold State.RegionsWf; rw [h]; exact h'
  regionsSized h' := by unfold State.RegionsSized; rw [State.region_congr h]; exact h'
  liveCount _ := by simp only [State.liveCount, State.liveRegions, h]

theorem State.Kept.trans {u : State} (h : State.Kept s t) (h' : State.Kept t u) : State.Kept s u where
  sizes r := (h'.sizes r).trans (h.sizes r)
  pages := h'.pages.trans h.pages
  regionsWf a := h'.regionsWf (h.regionsWf a)
  regionsSized a := h'.regionsSized (h.regionsSized a)
  liveCount a := (h'.liveCount (h.regionsWf a)).trans (h.liveCount a)

theorem State.Kept.setRegion {r : RegionId} {R : Region} (hR : s.region r = some R) (m : Memory)
    (hm : R.bytes.wf → m.wf) (hb : (∀ e ∈ R.bytes, e.1 < R.size) → ∀ e ∈ m, e.1 < R.size) :
    State.Kept s (s.setRegion r (some { R with bytes := m })) where
  sizes q := by
    rw [State.region_setRegion]; split_ifs with h
    · subst h; rw [hR]; rfl
    · rfl
  pages := rfl
  regionsWf h := State.regionsWf_setRegion h _ _
  regionsSized h := State.regionsSized_setRegion h _ fun R' h' => by
    obtain rfl : { R with bytes := m } = R' := by simpa using h'
    obtain ⟨a, b, c, d⟩ := h r R hR
    exact ⟨a, b, hm c, hb d⟩
  liveCount h := State.liveCount_setRegion_live h hR _

theorem State.Kept.putByte (s : State) (r : RegionId) (i : Nat) (v : Byte) : State.Kept s (s.putByte r i v) := by
  unfold State.putByte
  cases hR : s.region r with
  | none => exact .of_eq rfl rfl
  | some R =>
    by_cases hi : i < R.size
    · simp only [hi, if_true]
      exact .setRegion hR _ (Memory.wf_write _ _) (Memory.bound_write _ _ hi)
    · simp only [hi, if_false]; exact .of_eq rfl rfl

theorem State.Kept.asWrite (s : State) (a : Addr) (v : Byte) : State.Kept s (s.asWrite a v) := by
  rcases State.asWrite_cases s a v with ⟨-, h⟩ | ⟨r, i, -, h⟩
  · rw [h]; exact .of_eq rfl rfl
  · rw [h]; exact .putByte _ _ _ _

/-- The frame of ASWrite. -/
theorem State.asWrite_eq (s : State) (a : Addr) (v : Byte) :
    s.asWrite a v = { s with regions := (s.asWrite a v).regions } := by
  rcases State.asWrite_cases s a v with ⟨-, h⟩ | ⟨r, i, -, h⟩
  · rw [h]
  · rw [h]; exact State.putByte_eq _ _ _ _

/-- The frame of an I/O write. -/
theorem State.ioWrite_eq (s : State) (a : Addr) (v : Byte) :
    s.ioWrite a v = { s with
      ie := (s.ioWrite a v).ie, flip := (s.ioWrite a v).flip, sprite := (s.ioWrite a v).sprite } := by
  rcases State.ioWrite_cases s a v with h | h | h | h <;> rw [h] <;> rfl

/-- The frame of a driver write. -/
theorem State.memWrite_eq {a : Addr} {v : Byte} (h : s.memWrite a v = some t) :
    t = { s with regions := t.regions, ie := t.ie, flip := t.flip, sprite := t.sprite } := by
  rcases State.memWrite_cases h with rfl | ⟨p, -, -, -, rfl⟩ | ⟨-, rfl⟩
  · rfl
  · rw [State.asWrite_eq s a v]
  · rw [State.ioWrite_eq s a v]

theorem State.Kept.memWrite {a : Addr} {v : Byte} (h : s.memWrite a v = some t) : State.Kept s t := by
  rcases State.memWrite_cases h with rfl | ⟨p, -, -, -, rfl⟩ | ⟨-, rfl⟩
  · exact .of_eq rfl rfl
  · exact .asWrite _ _ _
  · rw [State.ioWrite_eq s a v]; exact .of_eq rfl rfl

/-- The frame of a bus transaction. -/
theorem State.perform_eq (s : State) (op : BusOp) :
    s.perform op = { s with
      regions := (s.perform op).regions, ie := (s.perform op).ie, flip := (s.perform op).flip,
      sprite := (s.perform op).sprite, fault := (s.perform op).fault, response := (s.perform op).response,
      received := (s.perform op).received } := by
  rcases State.perform_cases s op with ⟨a, b, -, h⟩ | ⟨a, v, t, -, h, h'⟩ | ⟨a, h⟩
  · rw [h]; rfl
  · rw [h', State.memWrite_eq h]; rfl
  · rw [h]; rfl

theorem State.Kept.perform (s : State) (op : BusOp) : State.Kept s (s.perform op) := by
  rcases State.perform_cases s op with ⟨a, b, -, h⟩ | ⟨a, v, t, -, h, h'⟩ | ⟨a, h⟩
  · rw [h]; exact .of_eq rfl rfl
  · rw [h']; exact (State.Kept.memWrite h).trans (.of_eq rfl rfl)
  · rw [h]; exact .of_eq rfl rfl

/-- The frame of the core's bus traffic. -/
theorem State.runBody_eq (s : State) (ops : List BusOp) :
    s.runBody ops = { s with
      regions := (s.runBody ops).regions, ie := (s.runBody ops).ie, flip := (s.runBody ops).flip,
      sprite := (s.runBody ops).sprite, fault := (s.runBody ops).fault, response := (s.runBody ops).response,
      received := (s.runBody ops).received } := by
  refine State.runBody_induct (fun t => t = { s with
      regions := t.regions, ie := t.ie, flip := t.flip, sprite := t.sprite, fault := t.fault, response := t.response,
      received := t.received }) (fun t op h => ?_) ops s rfl
  rw [State.perform_eq t op, h]

theorem State.Kept.runBody (s : State) (ops : List BusOp) : State.Kept s (s.runBody ops) :=
  State.runBody_induct (State.Kept s) (fun t op h => h.trans (.perform t op)) ops s (.of_eq rfl rfl)

/-! ### The frame -/

/-- The `execute` call of a frame is the core's bus traffic from the frame's start state (43_frame_scheduler.md R263). -/
theorem State.execute_eq_runBody (s : State) :
    s.execute = ((frameStart s).runBody s.draw.body).setInExecute false := rfl

/-- The frame of the `execute` call. -/
theorem State.execute_eq (s : State) :
    s.execute = { s with
      regions := s.execute.regions, ie := s.execute.ie, flip := s.execute.flip, sprite := s.execute.sprite,
      fault := s.execute.fault, cpuOut := s.cpuOut ++ [.execute (cycleBudget s.cfg)], inExecute := false,
      response := s.execute.response, received := s.execute.received } := by
  rw [State.execute_eq_runBody, State.runBody_eq]
  rfl

theorem State.Kept.execute (s : State) : State.Kept s s.execute :=
  (State.Kept.of_eq rfl rfl : State.Kept s (frameStart s)).trans ((State.Kept.runBody _ _).trans (.of_eq rfl rfl))

/-- The frame counter's next value fits its width (10_state.md R31). -/
theorem nextFrame_lt (bits n : Nat) : nextFrame bits n < 2 ^ bits := Nat.mod_lt _ (Nat.two_pow_pos _)

/-- A count that 32 bits hold stands in the response word as it is (30_encoding.md R101). -/
theorem frameCountBits_toNat {n : Nat} (h : n < 2 ^ 32) : (frameCountBits n).toNat = n := by
  rw [frameCountBits, if_pos h, BitVec.toNat_ofNat, Nat.mod_eq_of_lt h]

/-- The end of a completed frame: the pulse where S.ie is 1, and the counter one up (43_frame_scheduler.md R263). -/
theorem State.finishFrame_eq (s : State) :
    s.finishFrame = { s with
      cpuOut := s.cpuOut ++
        (if s.ie then [.irqLine s.cfg.irqLine .assert, .irqLine s.cfg.irqLine .clear] else []),
      frameCount := (s.frameCount + 1) % 2 ^ s.cfg.frameCounterBits } := by
  unfold State.finishFrame
  split_ifs
  · simp only [State.pulse, State.emit, List.append_assoc]; rfl
  · simp only [List.append_nil]; rfl

/-! ### LDROM and RESET -/

/-- The frame of LDROM's copy. -/
theorem State.loadRom_eq (s : State) (base : Nat) (img : List Byte) :
    s.loadRom base img = { s with regions := (s.loadRom base img).regions } := by
  unfold State.loadRom; split <;> rfl

theorem State.Kept.loadRom (s : State) (base : Nat) (img : List Byte) : State.Kept s (s.loadRom base img) := by
  unfold State.loadRom
  split
  · rename_i R hR
    refine .setRegion hR _ (Memory.wf_load _ _) fun hb => ?_
    by_cases hl : base ≤ R.size
    · exact Memory.bound_load _ _ (by simp; omega) hb
    · rw [show R.size - base = 0 by omega]; exact hb
  · exact .of_eq rfl rfl

/-- The frame of clearing a region. -/
theorem State.clearRegion_eq (s : State) (r : RegionId) :
    s.clearRegion r = { s with regions := (s.clearRegion r).regions } := by
  unfold State.clearRegion; split <;> rfl

theorem State.Kept.clearRegion (s : State) (r : RegionId) : State.Kept s (s.clearRegion r) := by
  unfold State.clearRegion
  split
  · rename_i R hR; exact .setRegion hR _ (fun _ => Memory.wf_zero) fun _ => by simp [Memory.zero]
  · exact .of_eq rfl rfl

/-- The frame of DriverReset (42_driver_lifecycle.md R225). -/
theorem State.driverReset_eq (s : State) :
    s.driverReset = { s with regions := s.driverReset.regions, ie := false, flip := false } := by
  simp only [State.driverReset, ramPlanes, List.foldl]
  rw [State.clearRegion_eq (State.clearRegion _ _), State.clearRegion_eq (s.clearRegion _), State.clearRegion_eq s]
  rfl

theorem State.Kept.driverReset (s : State) : State.Kept s s.driverReset :=
  ((State.Kept.clearRegion _ _).trans ((State.Kept.clearRegion _ _).trans (.clearRegion _ _))).trans (.of_eq rfl rfl)

/-- Clearing a region: its bytes read 0x00, every other byte is unchanged. -/
theorem State.byteAt_clearRegion (s : State) (r q : RegionId) (i : Nat) :
    (s.clearRegion r).byteAt q i = if r = q then (s.byteAt q i).map fun _ => 0x00 else s.byteAt q i := by
  unfold State.clearRegion
  cases hR : s.region r with
  | none => split_ifs with h
            · subst h; simp [State.byteAt, hR]
            · rfl
  | some R =>
    simp only [State.byteAt, State.region_setRegion]
    split_ifs with h
    · subst h; simp only [hR]; split_ifs <;> rfl
    · rfl

/-! ### INIT and SHUTDOWN -/

/-- The frame of INIT's allocations. -/
theorem State.allocPlanes_eq (ps : List Plane) (h : s.allocPlanes ps = some t) :
    t = { s with regions := t.regions } := by
  induction ps generalizing s with
  | nil => obtain rfl : s = t := by simpa [State.allocPlanes] using h
           rfl
  | cons p ps ih =>
    simp only [State.allocPlanes] at h
    split at h
    · simp at h
    · rename_i u hu
      obtain ⟨-, -, -, -, rfl⟩ := State.alloc_eq_some.1 hu
      rw [ih h]; rfl

/-- The frame of MAP. -/
theorem State.mapRange_eq {r : RegionId} {lo hi : Addr} {ro : Bool} (h : s.mapRange r lo hi ro = some t) :
    t = { s with pages := t.pages } := by
  rcases State.mapRange_cases s r lo hi ro with ⟨-, h'⟩ | ⟨R, l, -, -, -, -, -, h', -⟩
  · rw [h'] at h; simp at h
  · rw [h'] at h; obtain rfl : s.setPages l = t := by simpa using h
    rfl

/-- The frame of INIT's mappings. -/
theorem State.mapPlanes_eq (s : State) (ps : List Plane) :
    s.mapPlanes ps = { s with pages := (s.mapPlanes ps).pages } := by
  induction ps generalizing s with
  | nil => rfl
  | cons p ps ih =>
    simp only [State.mapPlanes]
    cases h : s.mapRange (planeId p) (planeWindow s.cfg p).lo (planeWindow s.cfg p).hi (planeReadOnly p) with
    | none => exact ih s
    | some t =>
      rw [Option.getD_some, ih t, State.mapRange_eq h]

/-- The parts of the invariant that the region table and the page table decide. -/
structure State.TablesInv (s : State) : Prop where
  regionsWf : s.RegionsWf
  pagesWf : s.PagesWf
  regionsSized : s.RegionsSized
  regionCount : s.liveCount ≤ s.cfg.maxRegions
  pagesBacked : s.PagesBacked

theorem State.TablesInv.kept (h : s.TablesInv) (k : State.Kept s t) (hc : t.cfg = s.cfg) : t.TablesInv where
  regionsWf := k.regionsWf h.regionsWf
  pagesWf := by unfold State.PagesWf; rw [k.pages]; exact h.pagesWf
  regionsSized := k.regionsSized h.regionsSized
  regionCount := by rw [k.liveCount h.regionsWf, hc]; exact h.regionCount
  pagesBacked := State.pagesBacked_of_sizes h.pagesBacked k.pages k.sizes

theorem State.TablesInv.alloc {r : RegionId} {n : Nat} (h : s.TablesInv) (ha : s.alloc r n = some t) : t.TablesInv := by
  obtain ⟨h1, h2, h3, h4, rfl⟩ := State.alloc_eq_some.1 ha
  refine ⟨State.regionsWf_setRegion h.regionsWf _ _, h.pagesWf,
    State.regionsSized_setRegion h.regionsSized _ fun R hR => ?_, ?_, ?_⟩
  · obtain rfl : (⟨n, Memory.zero, ""⟩ : Region) = R := by simpa using hR
    exact ⟨Nat.one_le_iff_ne_zero.2 h2, h3, Memory.wf_zero, by simp [Memory.zero]⟩
  · rw [State.liveCount_setRegion_new h1]; exact h4
  · intro p q off ro hp
    obtain ⟨R, hR, hs⟩ := h.pagesBacked p q off ro hp
    refine ⟨R, ?_, hs⟩
    rw [State.region_setRegion, if_neg (by rintro rfl; simp [h1] at hR)]; exact hR

theorem State.TablesInv.allocPlanes (ps : List Plane) (h : s.TablesInv) (ha : s.allocPlanes ps = some t) :
    t.TablesInv := by
  induction ps generalizing s with
  | nil => obtain rfl : s = t := by simpa [State.allocPlanes] using ha
           exact h
  | cons p ps ih =>
    simp only [State.allocPlanes] at ha
    split at ha
    · simp at ha
    · rename_i u hu; exact ih (h.alloc hu) ha

theorem State.TablesInv.mapRange {r : RegionId} {lo hi : Addr} {ro : Bool} (h : s.TablesInv)
    (hm : s.mapRange r lo hi ro = some t) : t.TablesInv := by
  rcases State.mapRange_cases s r lo hi ro with ⟨-, h'⟩ | ⟨R, l, hR, h1, h2, h3, h4, h', hl⟩
  · rw [h'] at hm; simp at hm
  · rw [h'] at hm; obtain rfl : s.setPages l = t := by simpa using hm
    have hh := hi.isLt
    refine ⟨h.regionsWf, ⟨?_, ?_⟩, h.regionsSized, h.regionCount, ?_⟩
    · rw [State.setPages_pages, hl]; exact canonical_mapPages _ _ _ _ _ h.pagesWf.1
    · rw [State.setPages_pages, hl]
      exact bound_mapPages _ _ _ _ _ (by simp only [rangePages, pageNumber]; omega) h.pagesWf.2
    · intro p q off ro' hp
      rw [State.page_setPages, hl, read_mapPages] at hp
      split_ifs at hp with hc
      · simp only [PageDesc.mapped.injEq] at hp
        obtain ⟨rfl, rfl, rfl⟩ := hp
        refine ⟨R, hR, ?_⟩
        simp only [rangePages, pageNumber] at hc
        omega
      · exact h.pagesBacked p q off ro' hp

theorem State.TablesInv.mapPlanes (ps : List Plane) (h : s.TablesInv) : (s.mapPlanes ps).TablesInv := by
  induction ps generalizing s with
  | nil => exact h
  | cons p ps ih =>
    simp only [State.mapPlanes]
    cases hm : s.mapRange (planeId p) (planeWindow s.cfg p).lo (planeWindow s.cfg p).hi (planeReadOnly p) with
    | none => exact ih h
    | some t => exact ih (h.mapRange hm)

theorem State.TablesInv.release (h : s.TablesInv) (r : RegionId) : (s.release r).TablesInv := by
  refine ⟨?_, State.pagesWf_release h.pagesWf r, ?_, ?_, ?_⟩
  · unfold State.release; split
    · exact h.regionsWf
    · exact State.regionsWf_setRegion h.regionsWf _ _
  · intro q R hq
    rw [State.region_release] at hq
    split_ifs at hq
    exact h.regionsSized q R hq
  · rw [State.release_eq]; refine le_trans ?_ h.regionCount
    change (s.release r).liveCount ≤ _
    unfold State.release; split
    · exact le_rfl
    · exact State.liveCount_setRegion_none s r
  · intro p q off ro hp
    cases hr : s.region r with
    | none => rw [State.release_of_none hr] at hp ⊢; exact h.pagesBacked p q off ro hp
    | some R =>
      rw [State.page_release (by simp [hr])] at hp
      split_ifs at hp with hc
      obtain ⟨R', hR', hs⟩ := h.pagesBacked p q off ro hp
      refine ⟨R', ?_, hs⟩
      rw [State.region_release, if_neg ?_]; exact hR'
      rintro rfl; rw [hp] at hc; simp [refersTo] at hc

end Sys2Proof.Machine
end

