-- ==== Sys2Proof/Laws/Frames.lean ====
section
/-! SUPPORT. Per shared operation and field it does not write: the field is unchanged. -/

namespace Sys2Proof.Machine

variable (s : State)

/-! ### putByte -/

@[simp] theorem State.putByte_sched (r : RegionId) (i : Nat) (v : Byte) : (s.putByte r i v).sched = s.sched := by
  rw [State.putByte_eq]
@[simp] theorem State.putByte_ready (r : RegionId) (i : Nat) (v : Byte) : (s.putByte r i v).ready = s.ready := by
  rw [State.putByte_eq]
@[simp] theorem State.putByte_pages (r : RegionId) (i : Nat) (v : Byte) : (s.putByte r i v).pages = s.pages := by
  rw [State.putByte_eq]
@[simp] theorem State.putByte_ie (r : RegionId) (i : Nat) (v : Byte) : (s.putByte r i v).ie = s.ie := by
  rw [State.putByte_eq]
@[simp] theorem State.putByte_flip (r : RegionId) (i : Nat) (v : Byte) : (s.putByte r i v).flip = s.flip := by
  rw [State.putByte_eq]
@[simp] theorem State.putByte_sprite (r : RegionId) (i : Nat) (v : Byte) : (s.putByte r i v).sprite = s.sprite := by
  rw [State.putByte_eq]
@[simp] theorem State.putByte_in0 (r : RegionId) (i : Nat) (v : Byte) : (s.putByte r i v).in0 = s.in0 := by
  rw [State.putByte_eq]
@[simp] theorem State.putByte_in1 (r : RegionId) (i : Nat) (v : Byte) : (s.putByte r i v).in1 = s.in1 := by
  rw [State.putByte_eq]
@[simp] theorem State.putByte_frameCount (r : RegionId) (i : Nat) (v : Byte) :
    (s.putByte r i v).frameCount = s.frameCount := by
  rw [State.putByte_eq]
@[simp] theorem State.putByte_romLoaded (r : RegionId) (i : Nat) (v : Byte) :
    (s.putByte r i v).romLoaded = s.romLoaded := by
  rw [State.putByte_eq]
@[simp] theorem State.putByte_fault (r : RegionId) (i : Nat) (v : Byte) : (s.putByte r i v).fault = s.fault := by
  rw [State.putByte_eq]
@[simp] theorem State.putByte_refused (r : RegionId) (i : Nat) (v : Byte) : (s.putByte r i v).refused = s.refused := by
  rw [State.putByte_eq]
@[simp] theorem State.putByte_cpuOut (r : RegionId) (i : Nat) (v : Byte) : (s.putByte r i v).cpuOut = s.cpuOut := by
  rw [State.putByte_eq]
@[simp] theorem State.putByte_cfg (r : RegionId) (i : Nat) (v : Byte) : (s.putByte r i v).cfg = s.cfg := by
  rw [State.putByte_eq]
@[simp] theorem State.putByte_inExecute (r : RegionId) (i : Nat) (v : Byte) :
    (s.putByte r i v).inExecute = s.inExecute := by
  rw [State.putByte_eq]
@[simp] theorem State.putByte_image (r : RegionId) (i : Nat) (v : Byte) : (s.putByte r i v).image = s.image := by
  rw [State.putByte_eq]
@[simp] theorem State.putByte_draw (r : RegionId) (i : Nat) (v : Byte) : (s.putByte r i v).draw = s.draw := by
  rw [State.putByte_eq]
@[simp] theorem State.putByte_pending (r : RegionId) (i : Nat) (v : Byte) : (s.putByte r i v).pending = s.pending := by
  rw [State.putByte_eq]
@[simp] theorem State.putByte_response (r : RegionId) (i : Nat) (v : Byte) :
    (s.putByte r i v).response = s.response := by
  rw [State.putByte_eq]
@[simp] theorem State.putByte_received (r : RegionId) (i : Nat) (v : Byte) :
    (s.putByte r i v).received = s.received := by
  rw [State.putByte_eq]

/-! ### asWrite -/

@[simp] theorem State.asWrite_sched (a : Addr) (v : Byte) : (s.asWrite a v).sched = s.sched := by
  rw [State.asWrite_eq]
@[simp] theorem State.asWrite_ready (a : Addr) (v : Byte) : (s.asWrite a v).ready = s.ready := by
  rw [State.asWrite_eq]
@[simp] theorem State.asWrite_pages (a : Addr) (v : Byte) : (s.asWrite a v).pages = s.pages := by
  rw [State.asWrite_eq]
@[simp] theorem State.asWrite_ie (a : Addr) (v : Byte) : (s.asWrite a v).ie = s.ie := by
  rw [State.asWrite_eq]
@[simp] theorem State.asWrite_flip (a : Addr) (v : Byte) : (s.asWrite a v).flip = s.flip := by
  rw [State.asWrite_eq]
@[simp] theorem State.asWrite_sprite (a : Addr) (v : Byte) : (s.asWrite a v).sprite = s.sprite := by
  rw [State.asWrite_eq]
@[simp] theorem State.asWrite_in0 (a : Addr) (v : Byte) : (s.asWrite a v).in0 = s.in0 := by
  rw [State.asWrite_eq]
@[simp] theorem State.asWrite_in1 (a : Addr) (v : Byte) : (s.asWrite a v).in1 = s.in1 := by
  rw [State.asWrite_eq]
@[simp] theorem State.asWrite_frameCount (a : Addr) (v : Byte) : (s.asWrite a v).frameCount = s.frameCount := by
  rw [State.asWrite_eq]
@[simp] theorem State.asWrite_romLoaded (a : Addr) (v : Byte) : (s.asWrite a v).romLoaded = s.romLoaded := by
  rw [State.asWrite_eq]
@[simp] theorem State.asWrite_fault (a : Addr) (v : Byte) : (s.asWrite a v).fault = s.fault := by
  rw [State.asWrite_eq]
@[simp] theorem State.asWrite_refused (a : Addr) (v : Byte) : (s.asWrite a v).refused = s.refused := by
  rw [State.asWrite_eq]
@[simp] theorem State.asWrite_cpuOut (a : Addr) (v : Byte) : (s.asWrite a v).cpuOut = s.cpuOut := by
  rw [State.asWrite_eq]
@[simp] theorem State.asWrite_cfg (a : Addr) (v : Byte) : (s.asWrite a v).cfg = s.cfg := by
  rw [State.asWrite_eq]
@[simp] theorem State.asWrite_inExecute (a : Addr) (v : Byte) : (s.asWrite a v).inExecute = s.inExecute := by
  rw [State.asWrite_eq]
@[simp] theorem State.asWrite_image (a : Addr) (v : Byte) : (s.asWrite a v).image = s.image := by
  rw [State.asWrite_eq]
@[simp] theorem State.asWrite_draw (a : Addr) (v : Byte) : (s.asWrite a v).draw = s.draw := by
  rw [State.asWrite_eq]
@[simp] theorem State.asWrite_pending (a : Addr) (v : Byte) : (s.asWrite a v).pending = s.pending := by
  rw [State.asWrite_eq]
@[simp] theorem State.asWrite_response (a : Addr) (v : Byte) : (s.asWrite a v).response = s.response := by
  rw [State.asWrite_eq]
@[simp] theorem State.asWrite_received (a : Addr) (v : Byte) : (s.asWrite a v).received = s.received := by
  rw [State.asWrite_eq]

/-! ### ioWrite -/

@[simp] theorem State.ioWrite_sched (a : Addr) (v : Byte) : (s.ioWrite a v).sched = s.sched := by
  rw [State.ioWrite_eq]
@[simp] theorem State.ioWrite_ready (a : Addr) (v : Byte) : (s.ioWrite a v).ready = s.ready := by
  rw [State.ioWrite_eq]
@[simp] theorem State.ioWrite_regions (a : Addr) (v : Byte) : (s.ioWrite a v).regions = s.regions := by
  rw [State.ioWrite_eq]
@[simp] theorem State.ioWrite_pages (a : Addr) (v : Byte) : (s.ioWrite a v).pages = s.pages := by
  rw [State.ioWrite_eq]
@[simp] theorem State.ioWrite_in0 (a : Addr) (v : Byte) : (s.ioWrite a v).in0 = s.in0 := by
  rw [State.ioWrite_eq]
@[simp] theorem State.ioWrite_in1 (a : Addr) (v : Byte) : (s.ioWrite a v).in1 = s.in1 := by
  rw [State.ioWrite_eq]
@[simp] theorem State.ioWrite_frameCount (a : Addr) (v : Byte) : (s.ioWrite a v).frameCount = s.frameCount := by
  rw [State.ioWrite_eq]
@[simp] theorem State.ioWrite_romLoaded (a : Addr) (v : Byte) : (s.ioWrite a v).romLoaded = s.romLoaded := by
  rw [State.ioWrite_eq]
@[simp] theorem State.ioWrite_fault (a : Addr) (v : Byte) : (s.ioWrite a v).fault = s.fault := by
  rw [State.ioWrite_eq]
@[simp] theorem State.ioWrite_refused (a : Addr) (v : Byte) : (s.ioWrite a v).refused = s.refused := by
  rw [State.ioWrite_eq]
@[simp] theorem State.ioWrite_cpuOut (a : Addr) (v : Byte) : (s.ioWrite a v).cpuOut = s.cpuOut := by
  rw [State.ioWrite_eq]
@[simp] theorem State.ioWrite_cfg (a : Addr) (v : Byte) : (s.ioWrite a v).cfg = s.cfg := by
  rw [State.ioWrite_eq]
@[simp] theorem State.ioWrite_inExecute (a : Addr) (v : Byte) : (s.ioWrite a v).inExecute = s.inExecute := by
  rw [State.ioWrite_eq]
@[simp] theorem State.ioWrite_image (a : Addr) (v : Byte) : (s.ioWrite a v).image = s.image := by
  rw [State.ioWrite_eq]
@[simp] theorem State.ioWrite_draw (a : Addr) (v : Byte) : (s.ioWrite a v).draw = s.draw := by
  rw [State.ioWrite_eq]
@[simp] theorem State.ioWrite_pending (a : Addr) (v : Byte) : (s.ioWrite a v).pending = s.pending := by
  rw [State.ioWrite_eq]
@[simp] theorem State.ioWrite_response (a : Addr) (v : Byte) : (s.ioWrite a v).response = s.response := by
  rw [State.ioWrite_eq]
@[simp] theorem State.ioWrite_received (a : Addr) (v : Byte) : (s.ioWrite a v).received = s.received := by
  rw [State.ioWrite_eq]

/-! ### perform -/

@[simp] theorem State.perform_sched (op : BusOp) : (s.perform op).sched = s.sched := by
  rw [State.perform_eq]
@[simp] theorem State.perform_ready (op : BusOp) : (s.perform op).ready = s.ready := by
  rw [State.perform_eq]
@[simp] theorem State.perform_pages (op : BusOp) : (s.perform op).pages = s.pages := by
  rw [State.perform_eq]
@[simp] theorem State.perform_in0 (op : BusOp) : (s.perform op).in0 = s.in0 := by
  rw [State.perform_eq]
@[simp] theorem State.perform_in1 (op : BusOp) : (s.perform op).in1 = s.in1 := by
  rw [State.perform_eq]
@[simp] theorem State.perform_frameCount (op : BusOp) : (s.perform op).frameCount = s.frameCount := by
  rw [State.perform_eq]
@[simp] theorem State.perform_romLoaded (op : BusOp) : (s.perform op).romLoaded = s.romLoaded := by
  rw [State.perform_eq]
@[simp] theorem State.perform_refused (op : BusOp) : (s.perform op).refused = s.refused := by
  rw [State.perform_eq]
@[simp] theorem State.perform_cpuOut (op : BusOp) : (s.perform op).cpuOut = s.cpuOut := by
  rw [State.perform_eq]
@[simp] theorem State.perform_cfg (op : BusOp) : (s.perform op).cfg = s.cfg := by
  rw [State.perform_eq]
@[simp] theorem State.perform_inExecute (op : BusOp) : (s.perform op).inExecute = s.inExecute := by
  rw [State.perform_eq]
@[simp] theorem State.perform_image (op : BusOp) : (s.perform op).image = s.image := by
  rw [State.perform_eq]
@[simp] theorem State.perform_draw (op : BusOp) : (s.perform op).draw = s.draw := by
  rw [State.perform_eq]
@[simp] theorem State.perform_pending (op : BusOp) : (s.perform op).pending = s.pending := by
  rw [State.perform_eq]

/-! ### runBody -/

@[simp] theorem State.runBody_sched (ops : List BusOp) : (s.runBody ops).sched = s.sched := by
  rw [State.runBody_eq]
@[simp] theorem State.runBody_ready (ops : List BusOp) : (s.runBody ops).ready = s.ready := by
  rw [State.runBody_eq]
@[simp] theorem State.runBody_pages (ops : List BusOp) : (s.runBody ops).pages = s.pages := by
  rw [State.runBody_eq]
@[simp] theorem State.runBody_in0 (ops : List BusOp) : (s.runBody ops).in0 = s.in0 := by
  rw [State.runBody_eq]
@[simp] theorem State.runBody_in1 (ops : List BusOp) : (s.runBody ops).in1 = s.in1 := by
  rw [State.runBody_eq]
@[simp] theorem State.runBody_frameCount (ops : List BusOp) : (s.runBody ops).frameCount = s.frameCount := by
  rw [State.runBody_eq]
@[simp] theorem State.runBody_romLoaded (ops : List BusOp) : (s.runBody ops).romLoaded = s.romLoaded := by
  rw [State.runBody_eq]
@[simp] theorem State.runBody_refused (ops : List BusOp) : (s.runBody ops).refused = s.refused := by
  rw [State.runBody_eq]
@[simp] theorem State.runBody_cpuOut (ops : List BusOp) : (s.runBody ops).cpuOut = s.cpuOut := by
  rw [State.runBody_eq]
@[simp] theorem State.runBody_cfg (ops : List BusOp) : (s.runBody ops).cfg = s.cfg := by
  rw [State.runBody_eq]
@[simp] theorem State.runBody_inExecute (ops : List BusOp) : (s.runBody ops).inExecute = s.inExecute := by
  rw [State.runBody_eq]
@[simp] theorem State.runBody_image (ops : List BusOp) : (s.runBody ops).image = s.image := by
  rw [State.runBody_eq]
@[simp] theorem State.runBody_draw (ops : List BusOp) : (s.runBody ops).draw = s.draw := by
  rw [State.runBody_eq]
@[simp] theorem State.runBody_pending (ops : List BusOp) : (s.runBody ops).pending = s.pending := by
  rw [State.runBody_eq]

/-! ### release -/

@[simp] theorem State.release_sched (r : RegionId) : (s.release r).sched = s.sched := by
  rw [State.release_eq]
@[simp] theorem State.release_ready (r : RegionId) : (s.release r).ready = s.ready := by
  rw [State.release_eq]
@[simp] theorem State.release_ie (r : RegionId) : (s.release r).ie = s.ie := by
  rw [State.release_eq]
@[simp] theorem State.release_flip (r : RegionId) : (s.release r).flip = s.flip := by
  rw [State.release_eq]
@[simp] theorem State.release_sprite (r : RegionId) : (s.release r).sprite = s.sprite := by
  rw [State.release_eq]
@[simp] theorem State.release_in0 (r : RegionId) : (s.release r).in0 = s.in0 := by
  rw [State.release_eq]
@[simp] theorem State.release_in1 (r : RegionId) : (s.release r).in1 = s.in1 := by
  rw [State.release_eq]
@[simp] theorem State.release_frameCount (r : RegionId) : (s.release r).frameCount = s.frameCount := by
  rw [State.release_eq]
@[simp] theorem State.release_romLoaded (r : RegionId) : (s.release r).romLoaded = s.romLoaded := by
  rw [State.release_eq]
@[simp] theorem State.release_fault (r : RegionId) : (s.release r).fault = s.fault := by
  rw [State.release_eq]
@[simp] theorem State.release_refused (r : RegionId) : (s.release r).refused = s.refused := by
  rw [State.release_eq]
@[simp] theorem State.release_cpuOut (r : RegionId) : (s.release r).cpuOut = s.cpuOut := by
  rw [State.release_eq]
@[simp] theorem State.release_cfg (r : RegionId) : (s.release r).cfg = s.cfg := by
  rw [State.release_eq]
@[simp] theorem State.release_inExecute (r : RegionId) : (s.release r).inExecute = s.inExecute := by
  rw [State.release_eq]
@[simp] theorem State.release_image (r : RegionId) : (s.release r).image = s.image := by
  rw [State.release_eq]
@[simp] theorem State.release_draw (r : RegionId) : (s.release r).draw = s.draw := by
  rw [State.release_eq]
@[simp] theorem State.release_pending (r : RegionId) : (s.release r).pending = s.pending := by
  rw [State.release_eq]
@[simp] theorem State.release_response (r : RegionId) : (s.release r).response = s.response := by
  rw [State.release_eq]
@[simp] theorem State.release_received (r : RegionId) : (s.release r).received = s.received := by
  rw [State.release_eq]

/-! ### mapPlanes -/

@[simp] theorem State.mapPlanes_sched (ps : List Plane) : (s.mapPlanes ps).sched = s.sched := by
  rw [State.mapPlanes_eq]
@[simp] theorem State.mapPlanes_ready (ps : List Plane) : (s.mapPlanes ps).ready = s.ready := by
  rw [State.mapPlanes_eq]
@[simp] theorem State.mapPlanes_regions (ps : List Plane) : (s.mapPlanes ps).regions = s.regions := by
  rw [State.mapPlanes_eq]
@[simp] theorem State.mapPlanes_ie (ps : List Plane) : (s.mapPlanes ps).ie = s.ie := by
  rw [State.mapPlanes_eq]
@[simp] theorem State.mapPlanes_flip (ps : List Plane) : (s.mapPlanes ps).flip = s.flip := by
  rw [State.mapPlanes_eq]
@[simp] theorem State.mapPlanes_sprite (ps : List Plane) : (s.mapPlanes ps).sprite = s.sprite := by
  rw [State.mapPlanes_eq]
@[simp] theorem State.mapPlanes_in0 (ps : List Plane) : (s.mapPlanes ps).in0 = s.in0 := by
  rw [State.mapPlanes_eq]
@[simp] theorem State.mapPlanes_in1 (ps : List Plane) : (s.mapPlanes ps).in1 = s.in1 := by
  rw [State.mapPlanes_eq]
@[simp] theorem State.mapPlanes_frameCount (ps : List Plane) : (s.mapPlanes ps).frameCount = s.frameCount := by
  rw [State.mapPlanes_eq]
@[simp] theorem State.mapPlanes_romLoaded (ps : List Plane) : (s.mapPlanes ps).romLoaded = s.romLoaded := by
  rw [State.mapPlanes_eq]
@[simp] theorem State.mapPlanes_fault (ps : List Plane) : (s.mapPlanes ps).fault = s.fault := by
  rw [State.mapPlanes_eq]
@[simp] theorem State.mapPlanes_refused (ps : List Plane) : (s.mapPlanes ps).refused = s.refused := by
  rw [State.mapPlanes_eq]
@[simp] theorem State.mapPlanes_cpuOut (ps : List Plane) : (s.mapPlanes ps).cpuOut = s.cpuOut := by
  rw [State.mapPlanes_eq]
@[simp] theorem State.mapPlanes_cfg (ps : List Plane) : (s.mapPlanes ps).cfg = s.cfg := by
  rw [State.mapPlanes_eq]
@[simp] theorem State.mapPlanes_inExecute (ps : List Plane) : (s.mapPlanes ps).inExecute = s.inExecute := by
  rw [State.mapPlanes_eq]
@[simp] theorem State.mapPlanes_image (ps : List Plane) : (s.mapPlanes ps).image = s.image := by
  rw [State.mapPlanes_eq]
@[simp] theorem State.mapPlanes_draw (ps : List Plane) : (s.mapPlanes ps).draw = s.draw := by
  rw [State.mapPlanes_eq]
@[simp] theorem State.mapPlanes_pending (ps : List Plane) : (s.mapPlanes ps).pending = s.pending := by
  rw [State.mapPlanes_eq]
@[simp] theorem State.mapPlanes_response (ps : List Plane) : (s.mapPlanes ps).response = s.response := by
  rw [State.mapPlanes_eq]
@[simp] theorem State.mapPlanes_received (ps : List Plane) : (s.mapPlanes ps).received = s.received := by
  rw [State.mapPlanes_eq]

/-! ### loadRom -/

@[simp] theorem State.loadRom_sched (base : Nat) (img : List Byte) : (s.loadRom base img).sched = s.sched := by
  rw [State.loadRom_eq]
@[simp] theorem State.loadRom_ready (base : Nat) (img : List Byte) : (s.loadRom base img).ready = s.ready := by
  rw [State.loadRom_eq]
@[simp] theorem State.loadRom_pages (base : Nat) (img : List Byte) : (s.loadRom base img).pages = s.pages := by
  rw [State.loadRom_eq]
@[simp] theorem State.loadRom_ie (base : Nat) (img : List Byte) : (s.loadRom base img).ie = s.ie := by
  rw [State.loadRom_eq]
@[simp] theorem State.loadRom_flip (base : Nat) (img : List Byte) : (s.loadRom base img).flip = s.flip := by
  rw [State.loadRom_eq]
@[simp] theorem State.loadRom_sprite (base : Nat) (img : List Byte) : (s.loadRom base img).sprite = s.sprite := by
  rw [State.loadRom_eq]
@[simp] theorem State.loadRom_in0 (base : Nat) (img : List Byte) : (s.loadRom base img).in0 = s.in0 := by
  rw [State.loadRom_eq]
@[simp] theorem State.loadRom_in1 (base : Nat) (img : List Byte) : (s.loadRom base img).in1 = s.in1 := by
  rw [State.loadRom_eq]
@[simp] theorem State.loadRom_frameCount (base : Nat) (img : List Byte) :
    (s.loadRom base img).frameCount = s.frameCount := by
  rw [State.loadRom_eq]
@[simp] theorem State.loadRom_romLoaded (base : Nat) (img : List Byte) :
    (s.loadRom base img).romLoaded = s.romLoaded := by
  rw [State.loadRom_eq]
@[simp] theorem State.loadRom_fault (base : Nat) (img : List Byte) : (s.loadRom base img).fault = s.fault := by
  rw [State.loadRom_eq]
@[simp] theorem State.loadRom_refused (base : Nat) (img : List Byte) : (s.loadRom base img).refused = s.refused := by
  rw [State.loadRom_eq]
@[simp] theorem State.loadRom_cpuOut (base : Nat) (img : List Byte) : (s.loadRom base img).cpuOut = s.cpuOut := by
  rw [State.loadRom_eq]
@[simp] theorem State.loadRom_cfg (base : Nat) (img : List Byte) : (s.loadRom base img).cfg = s.cfg := by
  rw [State.loadRom_eq]
@[simp] theorem State.loadRom_inExecute (base : Nat) (img : List Byte) :
    (s.loadRom base img).inExecute = s.inExecute := by
  rw [State.loadRom_eq]
@[simp] theorem State.loadRom_image (base : Nat) (img : List Byte) : (s.loadRom base img).image = s.image := by
  rw [State.loadRom_eq]
@[simp] theorem State.loadRom_draw (base : Nat) (img : List Byte) : (s.loadRom base img).draw = s.draw := by
  rw [State.loadRom_eq]
@[simp] theorem State.loadRom_pending (base : Nat) (img : List Byte) : (s.loadRom base img).pending = s.pending := by
  rw [State.loadRom_eq]
@[simp] theorem State.loadRom_response (base : Nat) (img : List Byte) : (s.loadRom base img).response = s.response := by
  rw [State.loadRom_eq]
@[simp] theorem State.loadRom_received (base : Nat) (img : List Byte) : (s.loadRom base img).received = s.received := by
  rw [State.loadRom_eq]

/-! ### clearRegion -/

@[simp] theorem State.clearRegion_sched (r : RegionId) : (s.clearRegion r).sched = s.sched := by
  rw [State.clearRegion_eq]
@[simp] theorem State.clearRegion_ready (r : RegionId) : (s.clearRegion r).ready = s.ready := by
  rw [State.clearRegion_eq]
@[simp] theorem State.clearRegion_pages (r : RegionId) : (s.clearRegion r).pages = s.pages := by
  rw [State.clearRegion_eq]
@[simp] theorem State.clearRegion_ie (r : RegionId) : (s.clearRegion r).ie = s.ie := by
  rw [State.clearRegion_eq]
@[simp] theorem State.clearRegion_flip (r : RegionId) : (s.clearRegion r).flip = s.flip := by
  rw [State.clearRegion_eq]
@[simp] theorem State.clearRegion_sprite (r : RegionId) : (s.clearRegion r).sprite = s.sprite := by
  rw [State.clearRegion_eq]
@[simp] theorem State.clearRegion_in0 (r : RegionId) : (s.clearRegion r).in0 = s.in0 := by
  rw [State.clearRegion_eq]
@[simp] theorem State.clearRegion_in1 (r : RegionId) : (s.clearRegion r).in1 = s.in1 := by
  rw [State.clearRegion_eq]
@[simp] theorem State.clearRegion_frameCount (r : RegionId) : (s.clearRegion r).frameCount = s.frameCount := by
  rw [State.clearRegion_eq]
@[simp] theorem State.clearRegion_romLoaded (r : RegionId) : (s.clearRegion r).romLoaded = s.romLoaded := by
  rw [State.clearRegion_eq]
@[simp] theorem State.clearRegion_fault (r : RegionId) : (s.clearRegion r).fault = s.fault := by
  rw [State.clearRegion_eq]
@[simp] theorem State.clearRegion_refused (r : RegionId) : (s.clearRegion r).refused = s.refused := by
  rw [State.clearRegion_eq]
@[simp] theorem State.clearRegion_cpuOut (r : RegionId) : (s.clearRegion r).cpuOut = s.cpuOut := by
  rw [State.clearRegion_eq]
@[simp] theorem State.clearRegion_cfg (r : RegionId) : (s.clearRegion r).cfg = s.cfg := by
  rw [State.clearRegion_eq]
@[simp] theorem State.clearRegion_inExecute (r : RegionId) : (s.clearRegion r).inExecute = s.inExecute := by
  rw [State.clearRegion_eq]
@[simp] theorem State.clearRegion_image (r : RegionId) : (s.clearRegion r).image = s.image := by
  rw [State.clearRegion_eq]
@[simp] theorem State.clearRegion_draw (r : RegionId) : (s.clearRegion r).draw = s.draw := by
  rw [State.clearRegion_eq]
@[simp] theorem State.clearRegion_pending (r : RegionId) : (s.clearRegion r).pending = s.pending := by
  rw [State.clearRegion_eq]
@[simp] theorem State.clearRegion_response (r : RegionId) : (s.clearRegion r).response = s.response := by
  rw [State.clearRegion_eq]
@[simp] theorem State.clearRegion_received (r : RegionId) : (s.clearRegion r).received = s.received := by
  rw [State.clearRegion_eq]

/-! ### driverReset -/

@[simp] theorem State.driverReset_sched : s.driverReset.sched = s.sched := by
  rw [State.driverReset_eq]
@[simp] theorem State.driverReset_ready : s.driverReset.ready = s.ready := by
  rw [State.driverReset_eq]
@[simp] theorem State.driverReset_pages : s.driverReset.pages = s.pages := by
  rw [State.driverReset_eq]
@[simp] theorem State.driverReset_sprite : s.driverReset.sprite = s.sprite := by
  rw [State.driverReset_eq]
@[simp] theorem State.driverReset_in0 : s.driverReset.in0 = s.in0 := by
  rw [State.driverReset_eq]
@[simp] theorem State.driverReset_in1 : s.driverReset.in1 = s.in1 := by
  rw [State.driverReset_eq]
@[simp] theorem State.driverReset_frameCount : s.driverReset.frameCount = s.frameCount := by
  rw [State.driverReset_eq]
@[simp] theorem State.driverReset_romLoaded : s.driverReset.romLoaded = s.romLoaded := by
  rw [State.driverReset_eq]
@[simp] theorem State.driverReset_fault : s.driverReset.fault = s.fault := by
  rw [State.driverReset_eq]
@[simp] theorem State.driverReset_refused : s.driverReset.refused = s.refused := by
  rw [State.driverReset_eq]
@[simp] theorem State.driverReset_cpuOut : s.driverReset.cpuOut = s.cpuOut := by
  rw [State.driverReset_eq]
@[simp] theorem State.driverReset_cfg : s.driverReset.cfg = s.cfg := by
  rw [State.driverReset_eq]
@[simp] theorem State.driverReset_inExecute : s.driverReset.inExecute = s.inExecute := by
  rw [State.driverReset_eq]
@[simp] theorem State.driverReset_image : s.driverReset.image = s.image := by
  rw [State.driverReset_eq]
@[simp] theorem State.driverReset_draw : s.driverReset.draw = s.draw := by
  rw [State.driverReset_eq]
@[simp] theorem State.driverReset_pending : s.driverReset.pending = s.pending := by
  rw [State.driverReset_eq]
@[simp] theorem State.driverReset_response : s.driverReset.response = s.response := by
  rw [State.driverReset_eq]
@[simp] theorem State.driverReset_received : s.driverReset.received = s.received := by
  rw [State.driverReset_eq]

/-! ### execute -/

@[simp] theorem State.execute_sched : s.execute.sched = s.sched := by
  rw [State.execute_eq]
@[simp] theorem State.execute_ready : s.execute.ready = s.ready := by
  rw [State.execute_eq]
@[simp] theorem State.execute_pages : s.execute.pages = s.pages := by
  rw [State.execute_eq]
@[simp] theorem State.execute_in0 : s.execute.in0 = s.in0 := by
  rw [State.execute_eq]
@[simp] theorem State.execute_in1 : s.execute.in1 = s.in1 := by
  rw [State.execute_eq]
@[simp] theorem State.execute_frameCount : s.execute.frameCount = s.frameCount := by
  rw [State.execute_eq]
@[simp] theorem State.execute_romLoaded : s.execute.romLoaded = s.romLoaded := by
  rw [State.execute_eq]
@[simp] theorem State.execute_refused : s.execute.refused = s.refused := by
  rw [State.execute_eq]
@[simp] theorem State.execute_cfg : s.execute.cfg = s.cfg := by
  rw [State.execute_eq]
@[simp] theorem State.execute_image : s.execute.image = s.image := by
  rw [State.execute_eq]
@[simp] theorem State.execute_draw : s.execute.draw = s.draw := by
  rw [State.execute_eq]
@[simp] theorem State.execute_pending : s.execute.pending = s.pending := by
  rw [State.execute_eq]

/-! ### finishFrame -/

@[simp] theorem State.finishFrame_sched : s.finishFrame.sched = s.sched := by
  rw [State.finishFrame_eq]
@[simp] theorem State.finishFrame_ready : s.finishFrame.ready = s.ready := by
  rw [State.finishFrame_eq]
@[simp] theorem State.finishFrame_regions : s.finishFrame.regions = s.regions := by
  rw [State.finishFrame_eq]
@[simp] theorem State.finishFrame_pages : s.finishFrame.pages = s.pages := by
  rw [State.finishFrame_eq]
@[simp] theorem State.finishFrame_ie : s.finishFrame.ie = s.ie := by
  rw [State.finishFrame_eq]
@[simp] theorem State.finishFrame_flip : s.finishFrame.flip = s.flip := by
  rw [State.finishFrame_eq]
@[simp] theorem State.finishFrame_sprite : s.finishFrame.sprite = s.sprite := by
  rw [State.finishFrame_eq]
@[simp] theorem State.finishFrame_in0 : s.finishFrame.in0 = s.in0 := by
  rw [State.finishFrame_eq]
@[simp] theorem State.finishFrame_in1 : s.finishFrame.in1 = s.in1 := by
  rw [State.finishFrame_eq]
@[simp] theorem State.finishFrame_romLoaded : s.finishFrame.romLoaded = s.romLoaded := by
  rw [State.finishFrame_eq]
@[simp] theorem State.finishFrame_fault : s.finishFrame.fault = s.fault := by
  rw [State.finishFrame_eq]
@[simp] theorem State.finishFrame_refused : s.finishFrame.refused = s.refused := by
  rw [State.finishFrame_eq]
@[simp] theorem State.finishFrame_cfg : s.finishFrame.cfg = s.cfg := by
  rw [State.finishFrame_eq]
@[simp] theorem State.finishFrame_inExecute : s.finishFrame.inExecute = s.inExecute := by
  rw [State.finishFrame_eq]
@[simp] theorem State.finishFrame_image : s.finishFrame.image = s.image := by
  rw [State.finishFrame_eq]
@[simp] theorem State.finishFrame_draw : s.finishFrame.draw = s.draw := by
  rw [State.finishFrame_eq]
@[simp] theorem State.finishFrame_pending : s.finishFrame.pending = s.pending := by
  rw [State.finishFrame_eq]
@[simp] theorem State.finishFrame_response : s.finishFrame.response = s.response := by
  rw [State.finishFrame_eq]
@[simp] theorem State.finishFrame_received : s.finishFrame.received = s.received := by
  rw [State.finishFrame_eq]

@[simp] theorem State.execute_inExecute : s.execute.inExecute = false := rfl
@[simp] theorem State.execute_cpuOut : s.execute.cpuOut = s.cpuOut ++ [.execute (cycleBudget s.cfg)] := by
  rw [State.execute_eq]
@[simp] theorem State.finishFrame_frameCount :
    s.finishFrame.frameCount = (s.frameCount + 1) % 2 ^ s.cfg.frameCounterBits := by
  rw [State.finishFrame_eq]

/-! ### Reads of the tables after an update of another field -/

@[simp] theorem State.setSched_region (x : Sched) (q : RegionId) : (s.setSched x).region q = s.region q := rfl
@[simp] theorem State.setSched_byteAt (x : Sched) (q : RegionId) (i : Nat) :
    (s.setSched x).byteAt q i = s.byteAt q i := rfl
@[simp] theorem State.setSched_liveCount (x : Sched) : (s.setSched x).liveCount = s.liveCount := rfl
@[simp] theorem State.setSched_page (x : Sched) (k : Nat) : (s.setSched x).page k = s.page k := rfl

@[simp] theorem State.setReady_region (x : Bool) (q : RegionId) : (s.setReady x).region q = s.region q := rfl
@[simp] theorem State.setReady_byteAt (x : Bool) (q : RegionId) (i : Nat) :
    (s.setReady x).byteAt q i = s.byteAt q i := rfl
@[simp] theorem State.setReady_liveCount (x : Bool) : (s.setReady x).liveCount = s.liveCount := rfl
@[simp] theorem State.setReady_page (x : Bool) (k : Nat) : (s.setReady x).page k = s.page k := rfl

@[simp] theorem State.setPages_region (x : Sparse PageDesc) (q : RegionId) : (s.setPages x).region q = s.region q := rfl
@[simp] theorem State.setPages_byteAt (x : Sparse PageDesc) (q : RegionId) (i : Nat) :
    (s.setPages x).byteAt q i = s.byteAt q i := rfl
@[simp] theorem State.setPages_liveCount (x : Sparse PageDesc) : (s.setPages x).liveCount = s.liveCount := rfl

@[simp] theorem State.setRegions_page (x : Sparse (Option Region)) (k : Nat) : (s.setRegions x).page k = s.page k := rfl

@[simp] theorem State.setIe_region (x : Bool) (q : RegionId) : (s.setIe x).region q = s.region q := rfl
@[simp] theorem State.setIe_byteAt (x : Bool) (q : RegionId) (i : Nat) : (s.setIe x).byteAt q i = s.byteAt q i := rfl
@[simp] theorem State.setIe_liveCount (x : Bool) : (s.setIe x).liveCount = s.liveCount := rfl
@[simp] theorem State.setIe_page (x : Bool) (k : Nat) : (s.setIe x).page k = s.page k := rfl

@[simp] theorem State.setFlip_region (x : Bool) (q : RegionId) : (s.setFlip x).region q = s.region q := rfl
@[simp] theorem State.setFlip_byteAt (x : Bool) (q : RegionId) (i : Nat) :
    (s.setFlip x).byteAt q i = s.byteAt q i := rfl
@[simp] theorem State.setFlip_liveCount (x : Bool) : (s.setFlip x).liveCount = s.liveCount := rfl
@[simp] theorem State.setFlip_page (x : Bool) (k : Nat) : (s.setFlip x).page k = s.page k := rfl

@[simp] theorem State.setSprite_region (x : Vector Byte 16) (q : RegionId) :
    (s.setSprite x).region q = s.region q := rfl
@[simp] theorem State.setSprite_byteAt (x : Vector Byte 16) (q : RegionId) (i : Nat) :
    (s.setSprite x).byteAt q i = s.byteAt q i := rfl
@[simp] theorem State.setSprite_liveCount (x : Vector Byte 16) : (s.setSprite x).liveCount = s.liveCount := rfl
@[simp] theorem State.setSprite_page (x : Vector Byte 16) (k : Nat) : (s.setSprite x).page k = s.page k := rfl

@[simp] theorem State.setInputs_region (p0 p1 : Byte) (q : RegionId) : (s.setInputs p0 p1).region q = s.region q := rfl
@[simp] theorem State.setInputs_byteAt (p0 p1 : Byte) (q : RegionId) (i : Nat) :
    (s.setInputs p0 p1).byteAt q i = s.byteAt q i := rfl
@[simp] theorem State.setInputs_liveCount (p0 p1 : Byte) : (s.setInputs p0 p1).liveCount = s.liveCount := rfl
@[simp] theorem State.setInputs_page (p0 p1 : Byte) (k : Nat) : (s.setInputs p0 p1).page k = s.page k := rfl

@[simp] theorem State.setFrameCount_region (x : Nat) (q : RegionId) :
    (s.setFrameCount x).region q = s.region q := rfl
@[simp] theorem State.setFrameCount_byteAt (x : Nat) (q : RegionId) (i : Nat) :
    (s.setFrameCount x).byteAt q i = s.byteAt q i := rfl
@[simp] theorem State.setFrameCount_liveCount (x : Nat) : (s.setFrameCount x).liveCount = s.liveCount := rfl
@[simp] theorem State.setFrameCount_page (x : Nat) (k : Nat) : (s.setFrameCount x).page k = s.page k := rfl

@[simp] theorem State.setRomLoaded_region (x : BitVec 4) (q : RegionId) :
    (s.setRomLoaded x).region q = s.region q := rfl
@[simp] theorem State.setRomLoaded_byteAt (x : BitVec 4) (q : RegionId) (i : Nat) :
    (s.setRomLoaded x).byteAt q i = s.byteAt q i := rfl
@[simp] theorem State.setRomLoaded_liveCount (x : BitVec 4) : (s.setRomLoaded x).liveCount = s.liveCount := rfl
@[simp] theorem State.setRomLoaded_page (x : BitVec 4) (k : Nat) : (s.setRomLoaded x).page k = s.page k := rfl

@[simp] theorem State.setInExecute_region (x : Bool) (q : RegionId) : (s.setInExecute x).region q = s.region q := rfl
@[simp] theorem State.setInExecute_byteAt (x : Bool) (q : RegionId) (i : Nat) :
    (s.setInExecute x).byteAt q i = s.byteAt q i := rfl
@[simp] theorem State.setInExecute_liveCount (x : Bool) : (s.setInExecute x).liveCount = s.liveCount := rfl
@[simp] theorem State.setInExecute_page (x : Bool) (k : Nat) : (s.setInExecute x).page k = s.page k := rfl

@[simp] theorem State.setReceived_region (x : List Byte) (q : RegionId) : (s.setReceived x).region q = s.region q := rfl
@[simp] theorem State.setReceived_byteAt (x : List Byte) (q : RegionId) (i : Nat) :
    (s.setReceived x).byteAt q i = s.byteAt q i := rfl
@[simp] theorem State.setReceived_liveCount (x : List Byte) : (s.setReceived x).liveCount = s.liveCount := rfl
@[simp] theorem State.setReceived_page (x : List Byte) (k : Nat) : (s.setReceived x).page k = s.page k := rfl

@[simp] theorem State.reply_region (v : Value) (q : RegionId) : (s.reply v).region q = s.region q := rfl
@[simp] theorem State.reply_byteAt (v : Value) (q : RegionId) (i : Nat) : (s.reply v).byteAt q i = s.byteAt q i := rfl
@[simp] theorem State.reply_liveCount (v : Value) : (s.reply v).liveCount = s.liveCount := rfl
@[simp] theorem State.reply_page (v : Value) (k : Nat) : (s.reply v).page k = s.page k := rfl

@[simp] theorem State.fail_region (e : Err) (q : RegionId) : (s.fail e).region q = s.region q := rfl
@[simp] theorem State.fail_byteAt (e : Err) (q : RegionId) (i : Nat) : (s.fail e).byteAt q i = s.byteAt q i := rfl
@[simp] theorem State.fail_liveCount (e : Err) : (s.fail e).liveCount = s.liveCount := rfl
@[simp] theorem State.fail_page (e : Err) (k : Nat) : (s.fail e).page k = s.page k := rfl

@[simp] theorem State.raiseFault_region (f : Fault) (q : RegionId) : (s.raiseFault f).region q = s.region q := rfl
@[simp] theorem State.raiseFault_byteAt (f : Fault) (q : RegionId) (i : Nat) :
    (s.raiseFault f).byteAt q i = s.byteAt q i := rfl
@[simp] theorem State.raiseFault_liveCount (f : Fault) : (s.raiseFault f).liveCount = s.liveCount := rfl
@[simp] theorem State.raiseFault_page (f : Fault) (k : Nat) : (s.raiseFault f).page k = s.page k := rfl

@[simp] theorem State.refuse_region (q : RegionId) : s.refuse.region q = s.region q := rfl
@[simp] theorem State.refuse_byteAt (q : RegionId) (i : Nat) : s.refuse.byteAt q i = s.byteAt q i := rfl
@[simp] theorem State.refuse_liveCount : s.refuse.liveCount = s.liveCount := rfl
@[simp] theorem State.refuse_page (k : Nat) : s.refuse.page k = s.page k := rfl

@[simp] theorem State.emit_region (e : CoreCall) (q : RegionId) : (s.emit e).region q = s.region q := rfl
@[simp] theorem State.emit_byteAt (e : CoreCall) (q : RegionId) (i : Nat) : (s.emit e).byteAt q i = s.byteAt q i := rfl
@[simp] theorem State.emit_liveCount (e : CoreCall) : (s.emit e).liveCount = s.liveCount := rfl
@[simp] theorem State.emit_page (e : CoreCall) (k : Nat) : (s.emit e).page k = s.page k := rfl

@[simp] theorem State.setRegion_page (r : RegionId) (x : Option Region) (k : Nat) :
    (s.setRegion r x).page k = s.page k := rfl

end Sys2Proof.Machine
end

