-- ==== Sys2Proof/Laws/PerInstr.lean ====
section
/-! SUPPORT. Per command: the encoder sets its row's OP byte and no reserved bit (30_encoding.md R103, R104). -/

namespace Sys2Proof.Laws

/-- Where every bit of a 16-bit field carries an operand, no bit of it is reserved (30_encoding.md R102). -/
theorem all_bits_used (x : BitVec 16) : x &&& ~~~(0xFFFF : BitVec 16) = 0 := by
  rw [show ~~~(0xFFFF : BitVec 16) = 0 by decide]; exact BitVec.and_zero

/-- A byte in the low half of D sets no bit of D[15:8] (30_encoding.md R102). -/
theorem byte_field_clear (v : Byte) : v.setWidth 16 &&& ~~~(0x00FF : BitVec 16) = 0 := by
  revert v; decide

/-- A flag in D[0] sets no bit of D[15:1] (30_encoding.md R102). -/
theorem flag_field_clear (b : Bool) : (BitVec.ofBool b).setWidth 16 &&& ~~~(0x0001 : BitVec 16) = 0 := by
  revert b; decide

namespace RowFit

/-- The OP byte selects the command's own row, and the row admits the fields: every reserved bit is zero. -/
def Statement (i : Instr) : Prop :=
  Opcode.ofByte i.fields.op = some i.opcode ∧ i.opcode.layout.admits i.fields = true

theorem brd (a : Addr) : Statement (.brd a) :=
  ⟨Opcode.ofByte_code .brd, by simp [Opcode.layout, Layout.admits, Instr.opcode, Instr.fields]⟩

theorem bwr (a : Addr) (v : Byte) : Statement (.bwr a v) :=
  ⟨Opcode.ofByte_code .bwr, by
    simp only [Opcode.layout, Layout.admits, Instr.opcode, Instr.fields, Bool.and_eq_true, beq_iff_eq]
    exact ⟨⟨⟨by simp, all_bits_used _⟩, by simp⟩, byte_field_clear _⟩⟩

theorem drd (a : Addr) : Statement (.drd a) :=
  ⟨Opcode.ofByte_code .drd, by simp [Opcode.layout, Layout.admits, Instr.opcode, Instr.fields]⟩

theorem dwr (a : Addr) (v : Byte) : Statement (.dwr a v) :=
  ⟨Opcode.ofByte_code .dwr, by
    simp only [Opcode.layout, Layout.admits, Instr.opcode, Instr.fields, Bool.and_eq_true, beq_iff_eq]
    exact ⟨⟨⟨by simp, all_bits_used _⟩, by simp⟩, byte_field_clear _⟩⟩

theorem init : Statement .init :=
  by unfold Statement; decide

theorem ldrom (k : BitVec 8) : Statement (.ldrom k) :=
  ⟨Opcode.ofByte_code .ldrom, by simp [Opcode.layout, Layout.admits, Instr.opcode, Instr.fields]⟩

theorem start : Statement .start :=
  by unfold Statement; decide

theorem runf : Statement .runf :=
  by unfold Statement; decide

theorem reset : Statement .reset :=
  by unfold Statement; decide

theorem shutdown : Statement .shutdown :=
  by unfold Statement; decide

theorem updin (p0 p1 : Byte) : Statement (.updin p0 p1) :=
  ⟨Opcode.ofByte_code .updin, by simp [Opcode.layout, Layout.admits, Instr.opcode, Instr.fields]⟩

theorem stats : Statement .stats :=
  by unfold Statement; decide

theorem alloc (r : RegionId) (n : BitVec 32) : Statement (.alloc r n) :=
  ⟨Opcode.ofByte_code .alloc, by simp [Opcode.layout, Layout.admits, Instr.opcode, Instr.fields]⟩

theorem free (r : RegionId) : Statement (.free r) :=
  ⟨Opcode.ofByte_code .free, by simp [Opcode.layout, Layout.admits, Instr.opcode, Instr.fields]⟩

theorem gbase (r : RegionId) : Statement (.gbase r) :=
  ⟨Opcode.ofByte_code .gbase, by simp [Opcode.layout, Layout.admits, Instr.opcode, Instr.fields]⟩

theorem gsize (r : RegionId) : Statement (.gsize r) :=
  ⟨Opcode.ofByte_code .gsize, by simp [Opcode.layout, Layout.admits, Instr.opcode, Instr.fields]⟩

theorem map (r : RegionId) (lo hi : Addr) (ro : Bool) : Statement (.map r lo hi ro) :=
  ⟨Opcode.ofByte_code .map, by
    simp only [Opcode.layout, Layout.admits, Instr.opcode, Instr.fields, Bool.and_eq_true, beq_iff_eq]
    exact ⟨⟨⟨by simp, all_bits_used _⟩, all_bits_used _⟩, flag_field_clear _⟩⟩

theorem asrd (a : Addr) : Statement (.asrd a) :=
  ⟨Opcode.ofByte_code .asrd, by simp [Opcode.layout, Layout.admits, Instr.opcode, Instr.fields]⟩

theorem aswr (a : Addr) (v : Byte) : Statement (.aswr a v) :=
  ⟨Opcode.ofByte_code .aswr, by
    simp only [Opcode.layout, Layout.admits, Instr.opcode, Instr.fields, Bool.and_eq_true, beq_iff_eq]
    exact ⟨⟨⟨by simp, all_bits_used _⟩, by simp⟩, byte_field_clear _⟩⟩

end RowFit

end Sys2Proof.Laws
end

