-- ==== Sys2Proof/Machine/Assembler.lean ====
section
/-! DEFINITION. The assembler syntax (30_encoding.md R108 to R110): one line of text to the commands it stands for.
Images are named and given beside the program. Log entry 18. -/

namespace Sys2Proof.Machine

/-- The tokens of a line. -/
inductive Token where
  | word (w : String)
  | num (n : Nat)
  | comma
  | semi
  | openBrace
  | closeBrace
  | bang
deriving DecidableEq, Repr

/-- The value of a digit in base `base`. -/
def digitValue (base : Nat) (c : Char) : Option Nat :=
  let n := c.toNat
  let d := if 48 ≤ n ∧ n ≤ 57 then n - 48 else if 97 ≤ n ∧ n ≤ 102 then n - 87 else if 65 ≤ n ∧ n ≤ 70 then n - 55 else base
  if d < base then some d else none

/-- The digits of a number, most significant first. -/
def digitsValue (base : Nat) : List Char → Nat → Option Nat
  | [], n => some n
  | c :: cs, n =>
    match digitValue base c with
    | some d => digitsValue base cs (n * base + d)
    | none => none

/-- A number, decimal or 0x hexadecimal, or a name (30_encoding.md R108). -/
def wordToken (cs : List Char) : Option Token :=
  match cs with
  | [] => none
  | '0' :: 'x' :: d :: ds => (digitsValue 16 (d :: ds) 0).map .num
  | c :: ds => if c.isDigit then (digitsValue 10 (c :: ds) 0).map .num else some (.word (String.ofList cs))

/-- The token of a punctuation character, none for a blank, and a failure for any other character. -/
def punctuation (c : Char) : Option (List Token) :=
  if c = ',' then some [.comma]
  else if c = ';' then some [.semi]
  else if c = Char.ofNat 123 then some [.openBrace]
  else if c = Char.ofNat 125 then some [.closeBrace]
  else if c = '!' then some [.bang]
  else if c = ' ' then some []
  else none

/-- The token of the characters gathered so far, in reverse. -/
def gathered (acc : List Char) : Option (List Token) :=
  match acc with
  | [] => some []
  | c :: cs => (wordToken (c :: cs).reverse).map fun t => [t]

/-- The tokens of a line; `//` starts a comment that runs to its end (30_encoding.md R108). -/
def tokens : List Char → List Char → Option (List Token)
  | [], acc => gathered acc
  | '/' :: '/' :: _, acc => gathered acc
  | c :: cs, acc =>
    if c.isAlphanum || c = '_' then tokens cs (c :: acc)
    else
      match gathered acc, punctuation c, tokens cs [] with
      | some t, some p, some ts => some (t ++ p ++ ts)
      | _, _, _ => none

/-- A number that a byte field holds. -/
def byteOperand (n : Nat) : Option (BitVec 8) := if n < 256 then some (BitVec.ofNat 8 n) else none

/-- A number that ALLOC's size field holds. -/
def sizeOperand (n : Nat) : Option (BitVec 32) := if n < 2 ^ 32 then some (BitVec.ofNat 32 n) else none

/-- A read-only flag, 0 or 1. -/
def flagOperand (n : Nat) : Option Bool := if n = 0 then some false else if n = 1 then some true else none

/-- An address, reduced to 16 bits (20_memory.md R61). -/
def addrOperand (n : Nat) : Addr := BitVec.ofNat 16 n

/-- One transaction of a RUNF body, or a body pseudo-instruction (30_encoding.md R109, R110). -/
def bodyItem (c : Cfg) : List Token → Option (List BusOp)
  | [.word w, .num a] =>
    if w = "BRD" then some [.read (addrOperand a)]
    else if w = "IEN" then (byteOperand a).map fun v => pseudoTransactions c (.ien v)
    else if w = "FLIPW" then (byteOperand a).map fun v => pseudoTransactions c (.flipw v)
    else none
  | [.word w, .num a, .comma, .num v] =>
    if w = "BWR" then (byteOperand v).map fun v => [.write (addrOperand a) v] else none
  | [.word w, .num n, .comma, .num e0, .comma, .num e1] =>
    if w = "SPR" then
      match byteOperand e0, byteOperand e1 with
      | some e0, some e1 =>
        if Pseudo.wf .body (.spr n e0 e1) then some (pseudoTransactions c (.spr n e0 e1)) else none
      | _, _ => none
    else none
  | _ => none

/-- The items of a RUNF body, `;` between them (30_encoding.md R109); `acc` is the item begun, in reverse. The tokens
after the closing brace are given back. -/
def bodyItems (c : Cfg) : List Token → List Token → Option (List BusOp × List Token)
  | [], _ => none
  | .closeBrace :: rest, [] => some ([], rest)
  | .closeBrace :: rest, t :: acc => (bodyItem c (t :: acc).reverse).map fun ops => (ops, rest)
  | .semi :: ts, acc =>
    match bodyItem c acc.reverse, bodyItems c ts [] with
    | some ops, some (more, rest) => some (ops ++ more, rest)
    | _, _ => none
  | t :: ts, acc => bodyItems c ts (t :: acc)

/-- What follows a RUNF's body: nothing, or `!fail` (30_encoding.md R109). -/
def frameOutcome : List Token → Option Bool
  | [] => some true
  | [.bang, .word w] => if w = "fail" then some false else none
  | _ => none

/-- A RUNF line after its mnemonic (30_encoding.md R109). -/
def frameLine (c : Cfg) : List Token → Option Submission
  | .openBrace :: ts =>
    match bodyItems c ts [] with
    | some (body, rest) => (frameOutcome rest).map fun ok => frameCommand body ok
    | none => none
  | ts => (frameOutcome ts).map fun ok => frameCommand [] ok

/-- The image of a name. -/
def imageNamed (images : List (String × List Byte)) (w : String) : Option (List Byte) :=
  (images.find? fun e => e.1 == w).map fun e => e.2

/-- A line without operands. -/
def plainCommand (w : String) : Option Instr :=
  if w = "INIT" then some .init
  else if w = "START" then some .start
  else if w = "RESET" then some .reset
  else if w = "SHUTDOWN" then some .shutdown
  else if w = "STATS" then some .stats
  else none

/-- A line with one number. -/
def unaryCommand (w : String) (n : Nat) : Option Instr :=
  if w = "DRD" then some (.drd (addrOperand n))
  else if w = "ASRD" then some (.asrd (addrOperand n))
  else if w = "FREE" then (byteOperand n).map .free
  else if w = "GBASE" then (byteOperand n).map .gbase
  else if w = "GSIZE" then (byteOperand n).map .gsize
  else none

/-- A line with two numbers. -/
def binaryCommand (w : String) (n m : Nat) : Option Instr :=
  if w = "DWR" then (byteOperand m).map fun v => .dwr (addrOperand n) v
  else if w = "ASWR" then (byteOperand m).map fun v => .aswr (addrOperand n) v
  else if w = "UPDIN" then
    match byteOperand n, byteOperand m with
    | some p0, some p1 => some (.updin p0 p1)
    | _, _ => none
  else if w = "ALLOC" then
    match byteOperand n, sizeOperand m with
    | some r, some size => some (.alloc r size)
    | _, _ => none
  else none

/-- One line of tokens to the commands it stands for (30_encoding.md R108, R110); an empty line stands for none. A BRD
or BWR line outside a RUNF body, which R108 lists as a form and 41_driver_bus.md R180 gives no meaning there, is read as
no command. DESIGN CHOICE, safe. Log entry 18. -/
def lineCommands (c : Cfg) (images : List (String × List Byte)) : List Token → Option (List Submission)
  | [] => some []
  | [.word w] =>
    if w = "RUNF" then (frameLine c []).map fun x => [x] else (plainCommand w).map fun i => [hostCommand i]
  | [.word w, .num n] => (unaryCommand w n).map fun i => [hostCommand i]
  | [.word w, .num n, .comma, .num m] => (binaryCommand w n m).map fun i => [hostCommand i]
  | [.word w, .num k, .comma, .word img] =>
    if w = "LDROM" then
      match byteOperand k, imageNamed images img with
      | some k, some bytes => some [romCommand k bytes]
      | _, _ => none
    else none
  | [.word w, .num r, .comma, .num lo, .comma, .num hi, .comma, .num ro] =>
    if w = "MAP" then
      match byteOperand r, flagOperand ro with
      | some r, some ro => some [hostCommand (.map r (addrOperand lo) (addrOperand hi) ro)]
      | _, _ => none
    else none
  | [.word w, .num r, .comma, .num lo, .comma, .num hi, .comma, .num size, .comma, .num ro] =>
    if w = "DREGION" then
      match byteOperand r, sizeOperand size, flagOperand ro with
      | some r, some size, some ro => some (pseudoCommands (.dregion r (addrOperand lo) (addrOperand hi) size ro))
      | _, _, _ => none
    else none
  | [.word w, .word a, .comma, .word b, .comma, .word d, .comma, .word e] =>
    if w = "BOOT" then
      match imageNamed images a, imageNamed images b, imageNamed images d, imageNamed images e with
      | some i0, some i1, some i2, some i3 => some (pseudoCommands (.boot i0 i1 i2 i3))
      | _, _, _, _ => none
    else none
  | .word w :: ts => if w = "RUNF" then (frameLine c ts).map fun x => [x] else none
  | _ => none

/-- Assemble one line of text (30_encoding.md R108). -/
def assembleLine (c : Cfg) (images : List (String × List Byte)) (line : String) : Option (List Submission) :=
  match tokens line.toList [] with
  | some ts => lineCommands c images ts
  | none => none

end Sys2Proof.Machine
end

