-- ==== Sys2Proof/Tests/Slice0.lean ====
section
/-! SUPPORT. The model's own tests. Expected results are the spec's: the vectors of 95_test_vectors.md, the corner cases
and examples of the rules, and words written out from the fields of 30_encoding.md R100. -/

namespace Sys2Proof.Tests

open Sys2Proof Sys2Proof.Machine

/-! ### Small states -/

/-- The reference configuration with the test-only values of 95_test_vectors.md (REG_PC and REG_SP are ours). -/
def testCfg : Cfg := { Config.reference with cfg0Value := 0x3C, cfg1Value := 0xA5, regPc := 1, regSp := 2 }

/-- A fresh session. -/
def fresh : State := { State.reset with cfg := testCfg }

/-- The state after a command. -/
def after (i : Instr) (s : State) : State :=
  match exec i s with
  | .next t => t
  | .fault _ => s
  | .refused _ => s

/-- The state after a RUNF in which the core behaves as written. -/
def frame (body : List BusOp) (ok : Bool) (s : State) : State := after .runf { s with draw := ⟨body, ok, 0⟩ }

/-- The response to a command. -/
def answer (i : Instr) (s : State) : Option Response := (after i s).response

/-- After INIT (95_test_vectors.md L1). -/
def ready : State := after .init fresh

/-- After INIT, the four slots loaded and START (95_test_vectors.md S4). -/
def running : State := { ready with romLoaded := 0b1111, sched := .running }

/-- Inside a RUNF's execute. -/
def inFrame : State := { running with inExecute := true }

/-- After a failed INIT (95_test_vectors.md P4). -/
def halted : State := { fresh with sched := .haltedError }

/-- `ALLOC 5, 0x200; MAP 5, 0x8000, 0x81FF, 1` (95_test_vectors.md A10). -/
def mapped5 : State := after (.map 5 0x8000 0x81FF true) (after (.alloc 5 0x200) fresh)

/-- As `mapped5` with the pages writable and a second mapping (95_test_vectors.md A18). -/
def aliased : State :=
  after (.map 5 0x9000 0x90FF false) (after (.map 5 0x8000 0x81FF false) (after (.alloc 5 0x200) fresh))

/-- A faulted block (95_test_vectors.md P5). -/
def faulted : State := { running with fault := some (.decodeInvariant 0x4C00) }

/-- A configuration whose RAM and ROM windows are one page each. -/
def smallCfg : Cfg :=
  { testCfg with
    winRom := ⟨0x0000, 0x00FF⟩, winVram := ⟨0x0100, 0x01FF⟩, winCram := ⟨0x0200, 0x02FF⟩, winWram := ⟨0x0400, 0x04FF⟩ }

/-- A running block with the small configuration. -/
def smallRunning : State := { after .init { fresh with cfg := smallCfg } with romLoaded := 0b1111, sched := .running }

/-- WRAM freed by a test FREE (95_test_vectors.md B16). -/
def noWram : State := after (.free 3) smallRunning

/-! ### Well-formedness: an ill-formed term per check -/

theorem test_wf_core_command_from_host : Instr.wf .host (.brd 0x5000) = false := by decide
theorem test_wf_host_command_in_body : Instr.wf .body .init = false := by decide
theorem test_wf_boot_in_body : Pseudo.wf .body (.boot [] [] [] []) = false := by decide
theorem test_wf_ien_outside_body : Pseudo.wf .host (.ien 1) = false := by decide
theorem test_wf_flipw_outside_body : Pseudo.wf .host (.flipw 1) = false := by decide
theorem test_wf_spr_outside_body : Pseudo.wf .host (.spr 0 0 0) = false := by decide
theorem test_wf_spr_pair_8 : Pseudo.wf .body (.spr 8 0 0) = false ∧ Pseudo.wf .body (.spr 7 0 0) = true := by decide
theorem test_wf_dregion_in_body : Pseudo.wf .body (.dregion 5 0 0xFF 0x100 true) = false := by decide

theorem test_wf1_overlap : wf1 { testCfg with winVram := ⟨0x3F00, 0x43FF⟩ } = false := by decide
theorem test_wf1_reversed : wf1 { testCfg with winIo := ⟨0x50FF, 0x5000⟩ } = false := by decide
theorem test_wf2_page_bounds : wf2 { testCfg with winVram := ⟨0x4001, 0x43FF⟩ } = false := by decide
theorem test_wf3_window_longer_than_region : wf3 { testCfg with sizeWram := 0x3FF } = false := by decide
theorem test_wf4_rom_not_lowest : wf4 { testCfg with winRom := ⟨0x0100, 0x3FFF⟩ } = false := by decide
theorem test_wf5_equal_read_registers : wf5 { testCfg with in1Addr := 0x5000 } = false := by decide
theorem test_wf6_write_register_outside : wf6 { testCfg with flipAddr := 0x5100 } = false := by decide
theorem test_wf7_register_in_sprite_block : wf7 { testCfg with spriteBase := 0x5031 } = false := by decide
theorem test_wf8_zero_budget : wf8 { testCfg with clockHz := ⟨59, 1⟩ } = false := by decide
theorem test_wf9_too_few_regions : wf9 { testCfg with maxRegions := 3 } = false := by decide
/-- 00_scope.md R6: "The reference configuration passes all nine checks". -/
theorem test_reference_is_admitted : admitted Config.reference = true := by decide

/-! ### Decoding: a word per row, written out from the fields of 30_encoding.md R100 to R103 -/

theorem test_decode_bus_words :
    decode 0x01ABCD0000000000 = .error (.reservedBits 0x01) ∧ decode 0x0100ABCD00000000 = .ok (.brd 0xABCD) ∧
    decode 0x0200ABCD000000EF = .ok (.bwr 0xABCD 0xEF) ∧ decode 0x0300ABCD00000000 = .ok (.drd 0xABCD) ∧
    decode 0x0400ABCD000000EF = .ok (.dwr 0xABCD 0xEF) := by decide

theorem test_decode_lifecycle_words :
    decode 0x1000000000000000 = .ok .init ∧ decode 0x11AB000000000000 = .ok (.ldrom 0xAB) ∧
    decode 0x1500000000000000 = .ok .shutdown ∧ decode 0x160000000000CDAB = .ok (.updin 0xAB 0xCD) := by decide

theorem test_decode_scheduler_words :
    decode 0x1200000000000000 = .ok .start ∧ decode 0x1300000000000000 = .ok .runf ∧
    decode 0x1400000000000000 = .ok .reset ∧ decode 0x1700000000000000 = .ok .stats := by decide

theorem test_decode_allocator_words :
    decode 0x20AB000012345678 = .ok (.alloc 0xAB 0x12345678) ∧ decode 0x21AB000000000000 = .ok (.free 0xAB) ∧
    decode 0x22AB000000000000 = .ok (.gbase 0xAB) ∧ decode 0x23AB000000000000 = .ok (.gsize 0xAB) := by decide

theorem test_decode_address_space_words :
    decode 0x24AB12345678_0001 = .ok (.map 0xAB 0x1234 0x5678 true) ∧
    decode 0x24AB12345678_0000 = .ok (.map 0xAB 0x1234 0x5678 false) ∧
    decode 0x2500ABCD00000000 = .ok (.asrd 0xABCD) ∧ decode 0x2600ABCD000000EF = .ok (.aswr 0xABCD 0xEF) := by decide

/-- The refused words of 95_test_vectors.md section 2.1. -/
theorem test_decode_refused_words :
    ([0x0100500000010000, 0x0200500000000101, 0x1000000000000001, 0x1100000100000000, 0x1600000100000000,
      0x2005000100000200, 0x2405800081FF0002, 0x0000000000000000, 0x0500000000000000, 0x2700000000000000,
      0xFF00000000000000] : List Cmd64).all (fun w => (decode w).isOk == false) = true := by decide

theorem test_encode_words :
    encode (.map 5 0x8000 0x81FF true) = 0x2405800081FF0001 ∧ encode (.updin 0xEF 0xBF) = 0x160000000000BFEF ∧
    encode (.alloc 5 0x200) = 0x2005000000000200 := by decide

theorem test_decode_table_word : decodeTableWord 64 0x0200ABCD000000EF = some (.bwr 0xABCD 0xEF) := by decide

/-! ### The address decoder (95_test_vectors.md E1, E10, section 2.2) -/

theorem test_decode_address_window_edges :
    [0x0000, 0x3FFF, 0x4000, 0x43FF, 0x4400, 0x47FF, 0x4800, 0x4BFF, 0x4C00, 0x4FFF, 0x5000, 0x50FF, 0x5100, 0xFFFF].map
      (decodeAddr testCfg) =
    [.backed .rom, .backed .rom, .backed .vram, .backed .vram, .backed .cram, .backed .cram, .unmapped, .unmapped,
     .backed .wram, .backed .wram, .io, .io, .unmapped, .unmapped] := by decide

theorem test_page_of_0xABCD : pageOf 0xABCD = 0xAB ∧ offsetOf 0xABCD = 0xCD := by decide

theorem test_map_lookup_rows :
    [0x3FFF, 0x4000, 0x4400, 0x4800, 0x4FFF, 0x5000, 0x5001, 0x5003, 0x5040, 0x505F, 0x506F, 0x5080, 0x50C0, 0x5100].map
      mapLookup =
    [.rom, .vram, .cram, .unmapped, .wram, .in0Ie, .ioGap, .flip, .in1, .ioGap, .sprite, .cfg0, .cfg1,
     .unmapped] := by decide

/-- 95_test_vectors.md E13. -/
theorem test_cycle_budget :
    cycleBudget testCfg = 51200 ∧ cycleBudget { testCfg with clockHz := ⟨1000000, 1⟩ } = 16666 := by decide

/-! ### One step of each command -/

/-- 95_test_vectors.md B1, B3. -/
theorem test_brd : (after (.brd 0x5080) inFrame).received = [0x3C] ∧
    answer (.brd 0x4800) inFrame = some (.ok (.byte 0xFF)) := by decide
/-- 41_driver_bus.md R180: BRD outside a RUNF is refused. -/
theorem test_brd_outside : (after (.brd 0x5000) running).refused = true ∧ answer (.brd 0x5000) running = none := by
  decide
/-- 41_driver_bus.md R189, 95_test_vectors.md B4, B5, B8. -/
theorem test_bwr : (after (.bwr 0x5000 0xFE) inFrame).ie = false ∧ (after (.bwr 0x5000 0xFF) inFrame).ie = true ∧
    (after (.bwr 0x5061 0x80) inFrame).sprite.toList.take 3 = [0x00, 0x80, 0x00] := by decide
/-- 95_test_vectors.md B2, E2. -/
theorem test_bwr_rom : (after (.bwr 0x0000 0x12) inFrame).regions = inFrame.regions := by decide
/-- 95_test_vectors.md section 2.2. -/
theorem test_drd : [0x5000, 0x5001, 0x5040, 0x5060, 0x5080, 0x50C0].map (fun a => answer (.drd a) ready) =
    [0xFF, 0xFF, 0xFF, 0xFF, 0x3C, 0xA5].map (fun b => some (.ok (.byte b))) := by decide
/-- 95_test_vectors.md B15. -/
theorem test_drd_fresh : answer (.drd 0x4000) fresh = some (.err .state) := by decide
/-- 95_test_vectors.md B13, section 2.2. -/
theorem test_dwr : (after (.dwr 0x47FF 0x5A) ready).byteAt 2 0x3FF = some 0x5A ∧
    (after (.dwr 0x506F 0x5A) ready).sprite.toList.getLast? = some 0x5A := by decide
/-- 95_test_vectors.md E3: the flip flag keeps bit 0. -/
theorem test_dwr_flip : [0x00, 0x01, 0xFE, 0xFF].map (fun v => (after (.dwr 0x5003 v) ready).flip) =
    [false, true, false, true] := by decide
/-- 95_test_vectors.md L1. -/
theorem test_init : answer .init fresh = some (.ok .none) ∧ ready.memoryUsage = 19456 ∧
    [0x00, 0x3F, 0x40, 0x47, 0x48, 0x4F, 0x50].map ready.page =
      [.mapped 0 0 true, .mapped 0 0x3F00 true, .mapped 1 0 false, .mapped 2 0x300 false, .unmapped,
       .mapped 3 0x300 false, .unmapped] := by decide
/-- 95_test_vectors.md L17, P4: a failed INIT rolls back and halts. -/
theorem test_init_fails : answer .init (after (.alloc 3 1) fresh) = some (.err .allocation) ∧
    (after .init (after (.alloc 3 1) fresh)).sched = .haltedError ∧
    (after .init (after (.alloc 3 1) fresh)).regions = [(3, some ⟨1, [], ""⟩)] := by decide
/-- 95_test_vectors.md L5, L6, L3, X1: state before slot before length. -/
theorem test_ldrom_errors : answer (.ldrom 4) { ready with image := [0xAA] } = some (.err .configuration) ∧
    answer (.ldrom 0) { ready with image := [0xAA] } = some (.err .data) ∧
    answer (.ldrom 5) { running with image := [0, 0, 0] } = some (.err .state) := by decide
/-- 42_driver_lifecycle.md R224: byte i of slot k lands at k·0x1000 + i. -/
theorem test_ldrom_places_bytes :
    ((State.loadRom ready (slotBase 1) [0xC3, 0x11]).byteAt 0 0x1001, markSlot 0b0000 1) = (some 0x11, 0b0010) := by
  decide
/-- 95_test_vectors.md S3, S4. -/
theorem test_start : answer .start ready = some (.err .state) ∧
    (after .start { ready with romLoaded := 0b1111 }).sched = .running := by decide
/-- 95_test_vectors.md S5. -/
theorem test_start_twice : answer .start running = some (.err .state) := by decide
/-- 95_test_vectors.md S7, 43_frame_scheduler.md R263: the pulse follows the frame. -/
theorem test_runf : (frame [.write 0x5000 0x01] true running).cpuOut =
      [.execute 51200, .irqLine 0 .assert, .irqLine 0 .clear] ∧
    (frame [.write 0x5000 0x01] true running).frameCount = 1 := by decide
/-- 95_test_vectors.md S10, and 43_frame_scheduler.md R263 for a counter of 4 bits: the frame counter wraps. -/
theorem test_frame_counter_wraps : nextFrame 32 0xFFFFFFFF = 0 ∧ nextFrame 4 14 = 15 ∧ nextFrame 4 15 = 0 := by decide
/-- 95_test_vectors.md X7, B16, with the small windows: a fault ends the frame before the failure is reported. -/
theorem test_runf_fault : (frame [.write 0x0400 1] false noWram).fault = some (.decodeInvariant 0x0400) ∧
    (frame [.write 0x0400 1] false noWram).response = none ∧
    (frame [.write 0x0400 1] false noWram).cpuOut = [.execute 51200] := by decide
/-- 95_test_vectors.md S13. -/
theorem test_reset : (after .reset running).cpuOut = [.cpuReset, .setReg 1 0x0000, .setReg 2 0x5000] := by decide
/-- 43_frame_scheduler.md R265 example, 95_test_vectors.md E4. -/
theorem test_reset_clears : (after .reset (after (.dwr 0x4C00 0x55) running)).byteAt 3 0 = some 0x00 ∧
    (after .reset { running with ie := true }).ie = false := by decide
/-- 95_test_vectors.md L13, with the small windows. -/
theorem test_shutdown : (after .shutdown smallRunning).regions = [] ∧ (after .shutdown smallRunning).pages = [] ∧
    (after .shutdown smallRunning).sched = .idle ∧ (after .shutdown smallRunning).ready = false := by decide
/-- 95_test_vectors.md S18. -/
theorem test_shutdown_halted : answer .shutdown halted = some (.ok .none) ∧
    (after .shutdown halted).sched = .haltedError := by decide
/-- 95_test_vectors.md L11. -/
theorem test_updin : (after (.updin 0xEF 0xBF) ready).in0 = 0xEF ∧ (after (.updin 0xEF 0xBF) ready).in1 = 0xBF := by
  decide
/-- 95_test_vectors.md S16, with frame_count 3. -/
theorem test_stats : (answer .stats { running with frameCount := 3 }).map responseWord = some 0x00004C0000000003 := by
  decide
/-- 95_test_vectors.md S17: the response word saturates. -/
theorem test_stats_saturates : responseWord (.ok (.stats 0 16796672)) = 0x00FFFFFF00000000 ∧
    responseWord (.ok (.stats 0xFFFFFFFF 0x4C00)) = 0x00004C00FFFFFFFF := by decide
/-- 95_test_vectors.md A3, A4, A5. -/
theorem test_alloc : [0, 0x400000, 0x400001].map (fun n => answer (.alloc 9 n) fresh) =
    [some (.err .allocation), some (.ok .none), some (.err .allocation)] := by decide
/-- 95_test_vectors.md A2. -/
theorem test_alloc_live : after (.alloc 5 0x100) mapped5 = mapped5.fail .allocation := by rfl
/-- 95_test_vectors.md A19. -/
theorem test_free : (after (.free 5) mapped5).regions = [] ∧ (after (.free 5) mapped5).pages = [] := by decide
/-- 95_test_vectors.md A7. -/
theorem test_free_never_allocated : answer (.free 7) fresh = some (.ok .none) := by decide
/-- 95_test_vectors.md A9, A8. -/
theorem test_gbase : (answer (.gbase 5) mapped5).map responseWord = some 0x0000000000000105 ∧
    (answer (.gbase 7) fresh).map responseWord = some 0 := by decide
/-- 95_test_vectors.md A9, A8. -/
theorem test_gsize : (answer (.gsize 5) mapped5).map responseWord = some 0x0000000100000200 ∧
    (answer (.gsize 7) fresh).map responseWord = some 0 := by decide
/-- 95_test_vectors.md A10. -/
theorem test_map : mapped5.pages = [(0x80, .mapped 5 0x000 true), (0x81, .mapped 5 0x100 true)] := by decide
/-- 95_test_vectors.md A11 to A15: each cause of ConfigurationError. -/
theorem test_map_errors :
    [(6, 0x8000, 0x80FF), (5, 0x8001, 0x81FF), (5, 0x8000, 0x81FE), (5, 0x8100, 0x80FF), (5, 0x0000, 0x02FF)].map
      (fun e : RegionId × Addr × Addr => answer (.map e.1 e.2.1 e.2.2 false) mapped5) =
    List.replicate 5 (some (.err .configuration)) := by decide
/-- 95_test_vectors.md E11, A19. -/
theorem test_asrd : answer (.asrd 0x1234) fresh = some (.ok (.byte 0xFF)) ∧
    answer (.asrd 0x5000) ready = some (.ok (.byte 0xFF)) := by decide
/-- 95_test_vectors.md A21. -/
theorem test_asrd_halted : answer (.asrd 0) halted = some (.err .state) := by decide
/-- 95_test_vectors.md A18: aliasing. -/
theorem test_aswr : answer (.asrd 0x8003) (after (.aswr 0x9003 0x99) aliased) = some (.ok (.byte 0x99)) := by decide
/-- 95_test_vectors.md A17: a write to a read-only page is discarded. -/
theorem test_aswr_read_only : (after (.aswr 0x8010 0x42) mapped5).regions = mapped5.regions := by decide

/-! ### The step, the pseudo-instructions and the assembler -/

/-- 30_encoding.md R106. -/
theorem test_step_refuses_invalid_word : (step (fresh.withFetchWord 64 0)) = .next { fresh with refused := true } := by
  rfl
/-- 95_test_vectors.md P2 line 1. -/
theorem test_step_runs_word : step (fresh.withFetchWord 64 0x2005000000000200) = exec (.alloc 5 0x200) fresh := by rfl
/-- 00_scope.md R6. -/
theorem test_step_refuses_configuration :
    step { fresh with cfg := { testCfg with maxRegions := 3 } } = .refused .configNotAdmitted := by rfl
/-- 30_encoding.md R110. -/
theorem test_spr_expansion : pseudoTransactions testCfg (.spr 7 0x80 0x40) =
    [.write 0x506E 0x80, .write 0x506F 0x40] := by decide
/-- 30_encoding.md R110. -/
theorem test_boot_expansion : (pseudoCommands (.boot [0xF3] [] [] [])).map (fun c => (c.word, c.image)) =
    [(0x1000000000000000, []), (0x1100000000000000, [0xF3]), (0x1101000000000000, []), (0x1102000000000000, []),
     (0x1103000000000000, []), (0x1200000000000000, []), (0x1400000000000000, [])] := by decide
/-- 95_test_vectors.md P2 line 3: the line's word. -/
theorem test_assemble_map :
    (assembleLine testCfg [] "MAP 5, 0x9000, 0x90FF, 1 // read-only").map (fun cs => cs.map Submission.word) =
      some [0x2405900090FF0001] := by decide
/-- 95_test_vectors.md S7, S11. -/
theorem test_assemble_runf : assembleLine testCfg [] (String.ofList ("RUNF ".toList ++ [Char.ofNat 123] ++
      " IEN 1; BRD 0x4C00 ".toList ++ [Char.ofNat 125] ++ " !fail".toList)) =
    some [⟨0x1300000000000000, [], ⟨[.write 0x5000 0x01, .read 0x4C00], false, 0⟩⟩] := by decide

/-! ### Witnesses: the hypotheses of each statement, met by a concrete state, clause by clause -/

/-- A state with an INIT submitted. -/
def submitted : State := fresh.submit (bareSubmission 0x1000000000000000)

theorem witness_StepRunsTheSubmittedCommand :
    admitted submitted.cfg = true ∧ submitted.pending = [bareSubmission 0x1000000000000000] ∧
    decode (bareSubmission 0x1000000000000000).word = .ok .init := ⟨by decide, rfl, by decide⟩

theorem witness_InvalidWordIsRefused :
    admitted fresh.cfg = true ∧ (fresh.withFetchWord 64 1).pending = [bareSubmission 1] ∧
    ∀ o : Opcode, (bareSubmission 1).word &&& o.matchMask.2 ≠ o.matchMask.1 :=
  ⟨by decide, rfl, by intro o; cases o <;> decide⟩

theorem witness_NothingSubmittedChangesNothing : admitted fresh.cfg = true ∧ fresh.pending = [] := by decide

theorem witness_FaultedBlockRefusesEveryCommand : faulted.fault ≠ none := by decide

theorem witness_EachAddressHasTheTargetOfItsWindow :
    admitted testCfg = true ∧ inWindow (planeWindow testCfg .rom) 0x3FFF = true ∧
    inWindow (planeWindow testCfg .vram) 0x4000 = true ∧ inWindow testCfg.winIo 0x50FF = true := by decide

theorem witness_ReferenceTableIsTheDispatch : usesReferenceMap running.cfg := by decide

theorem witness_UnmappedAddressIsOpenBus :
    (∀ w ∈ windows testCfg, inWindow w 0x4800 = false) ∧ (∀ w ∈ windows testCfg, inWindow w 0x4BFF = false) ∧
    (∀ w ∈ windows testCfg, inWindow w 0x5100 = false) ∧ (∀ w ∈ windows testCfg, inWindow w 0xFFFF = false) := by
  decide

theorem witness_BusReadsAnswerTheByteAndChangeNothing :
    inFrame.fault = none ∧ inFrame.memRead 0x3FFF = some 0x00 ∧ inFrame.memRead 0xFFFF = some 0xFF ∧
    inFrame.inExecute = true ∧ inFrame.ready = true ∧ inFrame.sched ≠ .haltedError := by decide

theorem witness_BusWritesApplyTheDriverWrite :
    inFrame.fault = none ∧ (inFrame.memWrite 0x4FFF 0x5A).isSome = true ∧ (inFrame.memWrite 0xFFFF 0x5A).isSome = true ∧
    inFrame.inExecute = true ∧ inFrame.ready = true ∧ inFrame.sched ≠ .haltedError := by decide

/-- INIT's pages back the first and the last address of each window. -/
theorem backs_edges :
    ready.Backs .rom 0x0000 true ∧ ready.Backs .rom 0x3FFF true ∧ ready.Backs .vram 0x4000 false ∧
    ready.Backs .vram 0x43FF false ∧ ready.Backs .wram 0x4C00 false ∧ ready.Backs .wram 0x4FFF false :=
  ⟨⟨0, by decide, by decide⟩, ⟨0x3F00, by decide, by decide⟩, ⟨0, by decide, by decide⟩, ⟨0x300, by decide, by decide⟩,
   ⟨0, by decide, by decide⟩, ⟨0x300, by decide, by decide⟩⟩

theorem witness_WindowReadGivesTheRegionByte :
    (decodeAddr ready.cfg 0x0000 = .backed .rom ∧ ready.Backs .rom 0x0000 true ∧ ready.byteAt 0 0 = some 0x00) ∧
    (decodeAddr ready.cfg 0x3FFF = .backed .rom ∧ ready.Backs .rom 0x3FFF true ∧ ready.byteAt 0 0x3FFF = some 0x00) ∧
    (decodeAddr ready.cfg 0x4FFF = .backed .wram ∧ ready.Backs .wram 0x4FFF false ∧ ready.byteAt 3 0x3FF = some 0x00) :=
  ⟨⟨by decide, backs_edges.1, by decide⟩, ⟨by decide, backs_edges.2.1, by decide⟩,
   ⟨by decide, backs_edges.2.2.2.2.2, by decide⟩⟩

/-- A running block whose regions a test FREE has all dropped: no page is mapped. -/
def unbacked : State := { running with regions := [], pages := [], inExecute := true }

theorem witness_UnbackedWindowAccessFaults :
    unbacked.fault = none ∧ decodeAddr unbacked.cfg 0x4C00 = .backed .wram ∧
    decodeAddr unbacked.cfg 0x3FFF = .backed .rom ∧ (∀ ro, ¬ unbacked.Backs .wram 0x4C00 ro) ∧
    (∀ ro, ¬ unbacked.Backs .rom 0x3FFF ro) ∧ unbacked.inExecute = true ∧ unbacked.ready = true ∧
    unbacked.sched ≠ .haltedError :=
  ⟨by decide, by decide, by decide, fun _ h => PageDesc.noConfusion h.choose_spec.1,
   fun _ h => PageDesc.noConfusion h.choose_spec.1, by decide, by decide, by decide⟩

/-- An address outside 0x5060 to 0x506F is no sprite slot's. -/
theorem no_sprite_slot (a : Addr) (h : a.toNat < 0x5060 ∨ 0x506F < a.toNat) (i : Fin 16) :
    a ≠ fresh.cfg.spriteBase + BitVec.ofNat 16 i.val := by
  intro hc
  have := congrArg BitVec.toNat hc
  rw [show fresh.cfg.spriteBase = 0x5060 from rfl] at this
  simp [BitVec.toNat_add] at this
  omega

theorem witness_IoReadsServeTheRegisters :
    admitted fresh.cfg = true ∧ ∀ a ∈ ([0x5001, 0x505F, 0x5070, 0x50FF] : List Addr),
      inWindow fresh.cfg.winIo a = true ∧
      a ∉ [fresh.cfg.in0Addr, fresh.cfg.in1Addr, fresh.cfg.cfg0Addr, fresh.cfg.cfg1Addr] ∧
      ∀ i : Fin 16, a ≠ fresh.cfg.spriteBase + BitVec.ofNat 16 i.val := by
  refine ⟨by decide, fun a ha => ?_⟩
  simp only [List.mem_cons, List.not_mem_nil, or_false] at ha
  rcases ha with rfl | rfl | rfl | rfl <;> exact ⟨by decide, by decide, no_sprite_slot _ (by decide)⟩

theorem witness_IoWritesStoreTheirTarget :
    admitted fresh.cfg = true ∧ ∀ a ∈ ([0x5001, 0x5002, 0x5040, 0x50FF] : List Addr),
      inWindow fresh.cfg.winIo a = true ∧ a ≠ fresh.cfg.ieAddr ∧ a ≠ fresh.cfg.flipAddr ∧
      ∀ i : Fin 16, a ≠ fresh.cfg.spriteBase + BitVec.ofNat 16 i.val := by
  refine ⟨by decide, fun a ha => ?_⟩
  simp only [List.mem_cons, List.not_mem_nil, or_false] at ha
  rcases ha with rfl | rfl | rfl | rfl <;> exact ⟨by decide, by decide, by decide, no_sprite_slot _ (by decide)⟩

theorem witness_RomWritesChangeNoReadAndFlagsKeepBitZero :
    decodeAddr inFrame.cfg 0x3FFF = .backed .rom ∧ inFrame.fault = none ∧
    exec (.bwr 0x3FFF 0x12) inFrame = .next (inFrame.reply .none) ∧ (inFrame.reply .none).fault = none ∧
    admitted inFrame.cfg = true ∧ inFrame.memWrite inFrame.cfg.ieAddr 0xFF = some (inFrame.setIe true) ∧
    inFrame.memWrite inFrame.cfg.flipAddr 0xFE = some (inFrame.setFlip false) :=
  ⟨by decide, by decide, rfl, by decide, by decide, rfl, rfl⟩

theorem witness_RamWriteStoresExactlyOneByte :
    (decodeAddr ready.cfg 0x4000 = .backed .vram ∧ ready.Backs .vram 0x4000 false ∧ ready.byteAt 1 0 = some 0x00) ∧
    (decodeAddr ready.cfg 0x4FFF = .backed .wram ∧ ready.Backs .wram 0x4FFF false ∧ ready.byteAt 3 0x3FF = some 0x00) :=
  ⟨⟨by decide, backs_edges.2.2.1, by decide⟩, ⟨by decide, backs_edges.2.2.2.2.2, by decide⟩⟩

theorem witness_StoringCommandsLeaveEverythingElse :
    (∃ t, exec (.bwr 0x4C00 0x55) inFrame = .next t) ∧ (∃ t, exec (.dwr 0x3FFF 0x55) inFrame = .next t) ∧
    (∃ t, exec (.aswr 0x4FFF 0x55) inFrame = .next t) ∧ inFrame.busStoreTarget 0x4C00 ≠ some (3, 1) ∧
    inFrame.busStoreTarget 0x3FFF = none ∧ inFrame.storeTarget 0x4FFF ≠ some (3, 0x3FE) ∧
    decodeAddr inFrame.cfg 0x4C00 ≠ .io := ⟨⟨_, rfl⟩, ⟨_, rfl⟩, ⟨_, rfl⟩, by decide, by decide, by decide, by decide⟩

theorem witness_BusCommandsOutsideTheirStateHaveNoEffect :
    fresh.fault = none ∧ fresh.inExecute = false ∧ fresh.ready = false ∧ halted.fault = none ∧
    halted.sched = .haltedError := by decide

/-- A session with one region short of the most that may be live. -/
def sevenLive : State := [0, 1, 2, 3, 4, 5, 6].foldl (fun s r => after (.alloc (BitVec.ofNat 8 r) 1) s) fresh

theorem witness_AllocMakesAZeroedRegionOrNothing :
    halted.fault = none ∧ halted.sched = .haltedError ∧ sevenLive.fault = none ∧ sevenLive.sched ≠ .haltedError ∧
    sevenLive.region 6 ≠ none ∧ 4194304 < (4194305 : BitVec 32).toNat ∧
    sevenLive.cfg.maxRegions ≤ (after (.alloc 7 1) sevenLive).liveCount ∧
    sevenLive.region 7 = none ∧ (4194304 : BitVec 32) ≠ 0 ∧ (4194304 : BitVec 32).toNat ≤ 4194304 ∧
    sevenLive.liveCount < sevenLive.cfg.maxRegions := by decide

theorem witness_FreeDropsTheRegionAndItsPages :
    halted.fault = none ∧ halted.sched = .haltedError ∧ mapped5.fault = none ∧ mapped5.sched ≠ .haltedError ∧ mapped5.region 4 = none ∧
    mapped5.region 5 ≠ none ∧ mapped5.page 0x80 = .mapped 5 0 true ∧ mapped5.page 0x82 = .unmapped := by decide

theorem witness_GbaseAnswersTheHandle :
    halted.fault = none ∧ halted.sched = .haltedError ∧ mapped5.fault = none ∧ mapped5.sched ≠ .haltedError ∧
    mapped5.region 255 = none ∧ mapped5.region 5 ≠ none := by decide

theorem witness_GsizeAnswersTheSize :
    halted.fault = none ∧ halted.sched = .haltedError ∧ mapped5.fault = none ∧ mapped5.sched ≠ .haltedError ∧
    mapped5.region 255 = none ∧ mapped5.region 5 = some ⟨0x200, [], ""⟩ := by decide

/-- A region of 64 KiB: MAP may map all 256 pages (95_test_vectors.md A16). -/
def wholeSpace : State := after (.alloc 4 0x10000) fresh

theorem witness_MapInstallsTheRangeOrNothing :
    halted.fault = none ∧ halted.sched = .haltedError ∧ mapped5.fault = none ∧ mapped5.sched ≠ .haltedError ∧ mapped5.region 6 = none ∧
    (0x8001 : Addr).toNat % 256 ≠ 0 ∧ (0x81FE : Addr).toNat % 256 ≠ 255 ∧
    (0x80FF : Addr).toNat < (0x8100 : Addr).toNat ∧
    (∃ R, mapped5.region 5 = some R ∧ R.size < (0x02FF : Addr).toNat - (0x0000 : Addr).toNat + 1) ∧
    wholeSpace.fault = none ∧ wholeSpace.region 4 = some ⟨0x10000, [], ""⟩ ∧ (0x0000 : Addr).toNat % 256 = 0 ∧
    (0xFFFF : Addr).toNat % 256 = 255 ∧ (0xFFFF : Addr).toNat - (0x0000 : Addr).toNat + 1 ≤ 0x10000 :=
  ⟨by decide, by decide, by decide, by decide, by decide, by decide, by decide, by decide, ⟨_, rfl, by decide⟩, by decide,
   by decide, by decide, by decide, by decide⟩

theorem witness_AsrdReadsThroughThePageTable :
    halted.fault = none ∧ halted.sched = .haltedError ∧ mapped5.fault = none ∧ mapped5.sched ≠ .haltedError ∧
    mapped5.page ((0x7FFF : Addr).toNat / 256) = .unmapped ∧
    mapped5.page ((0x81FF : Addr).toNat / 256) = .mapped 5 0x100 true ∧
    mapped5.byteAt 5 (0x100 + (0x81FF : Addr).toNat % 256) = some 0x00 := by decide

theorem witness_AswrStoresThroughThePageTable :
    halted.fault = none ∧ halted.sched = .haltedError ∧ mapped5.fault = none ∧ mapped5.sched ≠ .haltedError ∧
    aliased.fault = none ∧ aliased.sched ≠ .haltedError ∧ mapped5.page ((0x8000 : Addr).toNat / 256) = .mapped 5 0 true ∧
    aliased.page ((0x7FFF : Addr).toNat / 256) = .unmapped ∧
    aliased.page ((0x90FF : Addr).toNat / 256) = .mapped 5 0 false ∧
    aliased.byteAt 5 (0 + (0x90FF : Addr).toNat % 256) ≠ none ∧
    aliased.page ((0x80FF : Addr).toNat / 256) = .mapped 5 0 false ∧
    0 + (0x80FF : Addr).toNat % 256 = 0 + (0x90FF : Addr).toNat % 256 := by decide

theorem witness_LiveCountAndUsageAreOverTheLiveIds : sevenLive.RegionsWf :=
  ⟨⟨by decide, by decide⟩, by decide⟩

theorem witness_InitAllocatesAndMapsTheDriver :
    admitted fresh.cfg = true ∧ fresh.fault = none ∧ fresh.sched = .idle ∧ fresh.ready = false ∧
    (∀ p, fresh.region (planeId p) = none) ∧ fresh.liveCount + 4 ≤ fresh.cfg.maxRegions :=
  ⟨by decide, by decide, by decide, by decide, by intro p; cases p <;> decide, by decide⟩

/-- Five live regions, none of the driver's. -/
def fiveLive : State := [4, 5, 6, 7, 8].foldl (fun s r => after (.alloc (BitVec.ofNat 8 r) 1) s) fresh

theorem witness_InitFailureRollsBackAndHalts :
    running.fault = none ∧ running.sched ≠ .idle ∧ ready.ready = true ∧ admitted sevenLive.cfg = true ∧
    sevenLive.sched = .idle ∧ sevenLive.ready = false ∧ (∃ p, sevenLive.region (planeId p) ≠ none) ∧
    fiveLive.sched = .idle ∧ fiveLive.ready = false ∧ fiveLive.cfg.maxRegions < fiveLive.liveCount + 4 :=
  ⟨by decide, by decide, by decide, by decide, by decide, by decide, ⟨.wram, by decide⟩, by decide, by decide,
   by decide⟩

theorem witness_LdromCopiesTheImageIntoItsSlot :
    ready.fault = none ∧ ready.ready = true ∧ ready.sched = .idle ∧ (3 : BitVec 8).toNat < 4 ∧
    ({ ready with image := List.replicate 4096 0xDD } : State).image.length = 4096 ∧
    ready.region (planeId .rom) = some ⟨0x4000, [], ""⟩ ∧ (3 : BitVec 8).toNat * 4096 + 4096 ≤ 0x4000 :=
  ⟨by decide, by decide, by decide, by decide, List.length_replicate, by decide, by decide⟩

theorem witness_LdromErrorsChangeNothing :
    fresh.fault = none ∧ fresh.ready = false ∧ running.sched ≠ .idle ∧ ready.fault = none ∧ ready.ready = true ∧
    ready.sched = .idle ∧ 4 ≤ (4 : BitVec 8).toNat ∧ (3 : BitVec 8).toNat < 4 ∧ ready.image.length ≠ 4096 := by decide

/-- The page-table invariant, from a check of each listed page. -/
theorem pagesBacked_of_listed (s : State)
    (h : ∀ e ∈ s.pages, ∀ r off ro, e.2 = .mapped r off ro → ∃ R, s.region r = some R ∧ off + 255 < R.size) :
    s.PagesBacked := by
  intro p r off ro hp
  have hm := Sparse.mem_of_read PageDesc.unmapped s.pages p (by change s.page p ≠ _; simp [hp])
  exact h _ hm r off ro hp

theorem mapped5_pagesBacked : mapped5.PagesBacked := by
  refine pagesBacked_of_listed _ ?_
  rw [test_map]
  intro e he r off ro h
  simp only [List.mem_cons, List.not_mem_nil, or_false] at he
  rcases he with rfl | rfl <;>
    (simp only [PageDesc.mapped.injEq] at h; obtain ⟨rfl, rfl, rfl⟩ := h; exact ⟨_, rfl, by decide⟩)

theorem witness_ShutdownReleasesTheDriver :
    fresh.fault = none ∧ fresh.ready = false ∧ ({ mapped5 with ready := true } : State).ready = true ∧
    ({ mapped5 with ready := true } : State).PagesBacked := ⟨by decide, by decide, rfl, mapped5_pagesBacked⟩

theorem witness_UpdinStoresTheSnapshot :
    fresh.fault = none ∧ fresh.ready = false ∧ halted.sched = .haltedError ∧ ready.fault = none ∧ ready.ready = true ∧
    ready.sched ≠ .haltedError := by decide

theorem witness_StartEntersRunning :
    running.fault = none ∧ running.sched ≠ .idle ∧ fresh.ready = false ∧ ready.romLoaded ≠ 0b1111 ∧
    ({ ready with romLoaded := 0b1111 } : State).sched = .idle ∧ ready.ready = true := by decide

/-- A frame whose core enables the interrupt, and one whose core touches a window that is not backed. -/
def enabling : State := { running with draw := ⟨[.write 0x5000 0x01], true, 0⟩ }
def faulting : State := { running with regions := [], pages := [], draw := ⟨[.write 0x4C00 0x01], true, 0⟩ }

theorem witness_RunfExecutesThenPulsesThenCounts :
    enabling.fault = none ∧ enabling.sched = .running ∧ enabling.draw.success = true ∧
    ((frameStart enabling).runBody enabling.draw.body).fault = none ∧
    ((frameStart enabling).runBody enabling.draw.body).ie = true := by decide

theorem witness_RunfFailuresSkipPulseAndCount :
    ready.fault = none ∧ ready.sched ≠ .running ∧ faulting.fault = none ∧ faulting.sched = .running ∧
    ((frameStart faulting).runBody faulting.draw.body).fault ≠ none ∧
    ((frameStart { enabling with draw := ⟨[.write 0x5000 0x01], false, 0⟩ }).runBody
      [.write 0x5000 0x01]).fault = none := by decide

theorem witness_FrameTrafficIsBrdAndBwrInOrder :
    inFrame.fault = none ∧ inFrame.inExecute = true ∧ (inFrame.runBody [.write 0x5003 0x03, .read 0x5003]).fault = none ∧
    (inFrame.runBody [.write 0x5003 0x03, .read 0x5003]).received = [0xFF] := by decide

theorem smallRunning_pages :
    admitted smallRunning.cfg = true ∧ smallRunning.page 0 = .mapped 0 0 true ∧
    smallRunning.page 1 = .mapped 1 0 false ∧ smallRunning.page 2 = .mapped 2 0 false ∧
    smallRunning.page 4 = .mapped 3 0 false := by decide

theorem witness_BackedWindowsMeanNoFrameFaults :
    smallRunning.fault = none ∧ smallRunning.sched = .running ∧
    ∀ p a, decodeAddr smallRunning.cfg a = .backed p → ∃ ro, smallRunning.Backs p a ro := by
  refine ⟨by decide, by decide, fun p a h => ?_⟩
  have hw : inWindow (planeWindow smallCfg p) a = true := by
    change decodeAddr smallCfg a = _ at h
    unfold decodeAddr at h
    split_ifs at h <;> simp_all only [Target.backed.injEq] <;> (subst h; assumption)
  obtain ⟨-, h0, h1, h2, h4⟩ := smallRunning_pages
  rw [inWindow_iff] at hw
  refine ⟨planeReadOnly p, 0, ?_, ?_⟩
  · cases p
    · rw [show a.toNat / 256 = 0 by change 0 ≤ _ ∧ _ ≤ 255 at hw; omega]; exact h0
    · rw [show a.toNat / 256 = 1 by change 256 ≤ _ ∧ _ ≤ 511 at hw; omega]; exact h1
    · rw [show a.toNat / 256 = 2 by change 512 ≤ _ ∧ _ ≤ 767 at hw; omega]; exact h2
    · rw [show a.toNat / 256 = 4 by change 1024 ≤ _ ∧ _ ≤ 1279 at hw; omega]; exact h4
  · cases p
    · change 0 + _ = a.toNat - 0; change 0 ≤ _ ∧ _ ≤ 255 at hw; omega
    · change 0 + _ = a.toNat - 256; change 256 ≤ _ ∧ _ ≤ 511 at hw; omega
    · change 0 + _ = a.toNat - 512; change 512 ≤ _ ∧ _ ≤ 767 at hw; omega
    · change 0 + _ = a.toNat - 1024; change 1024 ≤ _ ∧ _ ≤ 1279 at hw; omega

theorem witness_RunfLeavesTheAddressSpaceAndRom : ∃ t, exec .runf enabling = .next t ∧ t.ie = true := ⟨_, rfl, by decide⟩

theorem witness_ReportedCyclesHaveNoEffect : ∃ t, exec .runf enabling = .next t ∧ t.frameCount = 1 := ⟨_, rfl, by decide⟩

theorem witness_FramesCountAndExecuteOnceEach :
    running.frameCount < 2 ^ running.cfg.frameCounterBits ∧
    (framesOf running [⟨[.write 0x5000 0x01], true, 0⟩, ⟨[], true, 7⟩]).isSome = true := by decide

theorem witness_ResetClearsRamAndResynchronisesTheCore :
    ready.fault = none ∧ ready.sched ≠ .running ∧ running.fault = none ∧ running.sched = .running := by decide

theorem witness_StatsReportsFrameCountAndUsage :
    fresh.fault = none ∧ fresh.ready = false ∧ halted.sched = .haltedError ∧ ready.ready = true ∧
    ready.sched ≠ .haltedError := by decide

theorem witness_SchedulerTakesOnlyListedTransitions :
    (halted.sched = .haltedError → halted.ready = false) ∧ (∃ t, exec .shutdown halted = .next t) ∧
    (running.sched = .haltedError → running.ready = false) ∧ (∃ t, exec .shutdown running = .next t) :=
  ⟨by decide, ⟨_, rfl⟩, by decide, ⟨_, rfl⟩⟩

theorem witness_HaltedErrorIsTerminal :
    Instr.wf .host .shutdown = true ∧ Instr.wf .host (.alloc 7 1) = true ∧ halted.fault = none ∧
    halted.sched = .haltedError ∧ halted.ready = false := by decide

theorem witness_ErrorsChangeNothing :
    (∃ t, exec .start ready = .next t ∧ t.response = some (.err .state)) ∧
    (∃ t, exec .init sevenLive = .next t ∧ t.response = some (.err .allocation)) ∧
    (∃ t, exec .runf { running with draw := ⟨[], false, 0⟩ } = .next t ∧ t.response = some (.err .execution)) :=
  ⟨⟨_, rfl, by decide⟩, ⟨_, rfl, by decide⟩, ⟨_, rfl, by decide⟩⟩

theorem witness_OnlyItsWritersChangeAField :
    (∃ t, exec (.updin 0xEF 0xBF) ready = .next t ∧ t.in0 ≠ ready.in0) ∧
    (∃ t, exec .runf enabling = .next t ∧ t.ie ≠ enabling.ie ∧ t.frameCount ≠ enabling.frameCount) :=
  ⟨⟨_, rfl, by decide⟩, ⟨_, rfl, by decide⟩⟩

theorem witness_CoreCallsAreAppendedAndTheLineEndsClear :
    (∃ t, exec .runf enabling = .next t) ∧ lineLevel enabling.cpuOut = .clear := ⟨⟨_, rfl⟩, by decide⟩

theorem witness_FaultAndRefusalAreNeverCleared :
    (∃ t, step faulted = .next t) ∧ faulted.fault ≠ none ∧
    (∃ t, step { submitted with refused := true } = .next t) ∧ ({ submitted with refused := true } : State).refused = true :=
  ⟨⟨_, rfl⟩, by decide, ⟨_, rfl⟩, rfl⟩

theorem mapped5_regions : mapped5.regions = [(5, some ⟨0x200, [], ""⟩)] := by decide

theorem mapped5_inv : mapped5.Inv where
  regionsWf := ⟨by decide, by decide⟩
  pagesWf := ⟨by decide, by decide⟩
  regionsSized := by
    intro r R h
    simp only [State.region, mapped5_regions, Sparse.read_cons, Sparse.read_nil] at h
    split_ifs at h with hr
    obtain rfl : (⟨0x200, [], ""⟩ : Region) = R := by simpa using h
    exact ⟨by decide, by decide, ⟨by decide, by decide⟩, by decide⟩
  regionCount := by decide
  pagesBacked := mapped5_pagesBacked
  runningReady := by decide
  haltedNotReady := by decide
  frameCountFits := by decide
  lineClear := by decide
  notInExecute := by decide

/-- `mapped5` with `FREE 5` submitted. -/
def freeing : State := mapped5.submit (bareSubmission 0x2105000000000000)

theorem witness_EveryStepKeepsTheInvariant : freeing.Inv ∧ ∃ t, step freeing = .next t ∧ t.regions = [] :=
  ⟨{ mapped5_inv with }, _, rfl, by decide⟩

theorem witness_ExactlyInadmissibleConfigurationsAreRefused :
    step { fresh with cfg := { testCfg with sizeRom := 0 } } = .refused .configNotAdmitted := by rfl

theorem witness_BodyPseudoInstructionsSetTheirRegisters : admitted running.cfg = true ∧ running.fault = none := by
  decide

end Sys2Proof.Tests
end

section
/-! The statements of 00_scope.md: what admits a configuration (R6), that a step runs the submitted command and every
command answers a next state (R9), and that an error changes nothing (R8). -/

namespace Sys2Proof.Machine

variable {s t : State} {c : Cfg}

/-! ### The checks of a configuration, over addresses and natural numbers (00_scope.md R6) -/

/-- Two ordered windows are apart exactly where no address lies in both. -/
theorem disjoint_iff_no_common_address {w v : Window} (hw : w.lo.toNat ≤ w.hi.toNat)
    (hv : v.lo.toNat ≤ v.hi.toNat) :
    disjoint w v = true ↔ ∀ a, ¬(inWindow w a = true ∧ inWindow v a = true) := by
  simp only [disjoint, Bool.or_eq_true, decide_eq_true_eq, inWindow_iff]
  constructor
  · intro h a; omega
  · -- the higher of the two lower ends would lie in both windows
    intro h
    have hwlo := h w.lo
    have hvlo := h v.lo
    omega

theorem driverPlanes_all_iff (f : Plane → Bool) : driverPlanes.all f = true ↔ ∀ p, f p = true := by
  rw [List.all_eq_true]
  exact ⟨fun h p => h p (by cases p <;> decide), fun h p _ => h p⟩

theorem wf1_iff : wf1 c = true ↔
    (∀ w ∈ windows c, w.lo.toNat ≤ w.hi.toNat) ∧
    (windows c).Pairwise fun w v => ∀ a, ¬(inWindow w a = true ∧ inWindow v a = true) := by
  have hsplit : wf1 c = true ↔
      (∀ w ∈ windows c, w.lo.toNat ≤ w.hi.toNat) ∧ (windows c).Pairwise fun w v => disjoint w v = true := by
    simp [wf1, windows, and_assoc]
  rw [hsplit]
  exact and_congr_right fun hord =>
    List.Pairwise.iff_of_mem fun hw hv => disjoint_iff_no_common_address (hord _ hw) (hord _ hv)

theorem wf2_iff : wf2 c = true ↔
    ∀ p, (planeWindow c p).lo.toNat % 256 = 0 ∧ (planeWindow c p).hi.toNat % 256 = 255 := by
  simp only [wf2, driverPlanes_all_iff, Bool.and_eq_true, beq_iff_eq]

theorem planeWindow_mem_windows (c : Cfg) (p : Plane) : planeWindow c p ∈ windows c := by
  cases p <;> simp [planeWindow, windows]

/-- The length of an ordered window is the difference of its ends and one, so WF3 needs WF1. -/
theorem wf3_iff (hord : ∀ w ∈ windows c, w.lo.toNat ≤ w.hi.toNat) : wf3 c = true ↔
    ∀ p, (planeWindow c p).hi.toNat + 1 ≤ (planeWindow c p).lo.toNat + planeSize c p := by
  simp only [wf3, driverPlanes_all_iff, decide_eq_true_eq]
  refine forall_congr' fun p => ?_
  have := hord _ (planeWindow_mem_windows c p)
  omega

theorem wf4_iff : wf4 c = true ↔
    c.winRom.lo = 0x0000 ∧ ∀ w ∈ [c.winVram, c.winCram, c.winWram, c.winIo], c.winRom.hi.toNat < w.lo.toNat := by
  simp only [wf4, Bool.and_eq_true, beq_iff_eq, List.all_eq_true, decide_eq_true_eq]

theorem wf5_iff : wf5 c = true ↔
    [c.in0Addr, c.in1Addr, c.cfg0Addr, c.cfg1Addr].Nodup ∧
    ∀ a ∈ [c.in0Addr, c.in1Addr, c.cfg0Addr, c.cfg1Addr],
      c.winIo.lo.toNat ≤ a.toNat ∧ a.toNat ≤ c.winIo.hi.toNat := by
  simp only [wf5, Bool.and_eq_true, decide_eq_true_eq, List.all_eq_true, inWindow_iff]

theorem wf6_iff : wf6 c = true ↔
    c.ieAddr ≠ c.flipAddr ∧
    ∀ a ∈ [c.ieAddr, c.flipAddr], c.winIo.lo.toNat ≤ a.toNat ∧ a.toNat ≤ c.winIo.hi.toNat := by
  simp [wf6, inWindow_iff, and_assoc]

/-- An address is outside the sprite block exactly where it is none of the sixteen slot addresses. -/
theorem not_inSpriteBlock_iff (a : Addr) :
    (!inSpriteBlock c a) = true ↔ ∀ i, i ≤ 15 → a.toNat ≠ c.spriteBase.toNat + i := by
  simp only [inSpriteBlock, Bool.not_eq_true', Bool.and_eq_false_iff, decide_eq_false_iff_not, Config.spriteLast]
  constructor
  · intro h i hi; omega
  · intro h
    have := h (a.toNat - c.spriteBase.toNat)
    omega

theorem wf7_iff : wf7 c = true ↔
    ∀ i, i ≤ 15 → c.winIo.lo.toNat ≤ c.spriteBase.toNat + i ∧ c.spriteBase.toNat + i ≤ c.winIo.hi.toNat ∧
      ∀ a ∈ [c.in0Addr, c.in1Addr, c.cfg0Addr, c.cfg1Addr, c.ieAddr, c.flipAddr],
        a.toNat ≠ c.spriteBase.toNat + i := by
  simp only [wf7, Bool.and_eq_true, decide_eq_true_eq, List.all_eq_true, not_inSpriteBlock_iff, Config.spriteLast]
  constructor
  · rintro ⟨⟨hlo, hhi⟩, hregs⟩ i hi
    exact ⟨by omega, by omega, fun a ha => hregs a ha i hi⟩
  · intro h
    obtain ⟨hlo, -, -⟩ := h 0 (by omega)
    obtain ⟨-, hhi, -⟩ := h 15 (by omega)
    exact ⟨⟨hlo, hhi⟩, fun a ha i hi => (h i hi).2.2 a ha⟩

theorem wf9_iff : wf9 c = true ↔
    (∀ p, 1 ≤ planeSize c p ∧ planeSize c p ≤ Config.maxRegionSize) ∧ 4 ≤ c.maxRegions := by
  simp only [wf9, Bool.and_eq_true, decide_eq_true_eq, driverPlanes_all_iff]

/-- The nine checks of the model are those of 00_scope.md R6. -/
theorem admitted_iff_admissible : admitted c = true ↔ Admissible c := by
  simp only [admitted, Bool.and_eq_true, wf1_iff, wf2_iff, wf4_iff, wf5_iff, wf6_iff, wf7_iff, wf8, wf9_iff,
    decide_eq_true_eq]
  constructor
  · rintro ⟨⟨hord, hdis⟩, h2, h3, h4, h5, h6, h7, h8, h9⟩
    exact ⟨hord, hdis, h2, (wf3_iff hord).1 h3, h4, h5, h6, h7, h8, h9⟩
  · rintro ⟨hord, hdis, h2, h3, h4, h5, h6, h7, h8, h9⟩
    exact ⟨⟨hord, hdis⟩, h2, (wf3_iff hord).2 h3, h4, h5, h6, h7, h8, h9⟩

/-! ### One step (00_scope.md R9) -/

theorem exec_next (i : Instr) (s : State) : ∃ t, exec i s = .next t := by
  cases i <;> exact ⟨_, rfl⟩

theorem step_of_not_admitted (h : ¬ admitted s.cfg = true) : step s = .refused .configNotAdmitted := by
  rw [step, if_neg h]

theorem State.intake_cons {d : Submission} {ds : List Submission} (h : s.pending = d :: ds) :
    s.intake = some (d.word, { s with pending := ds, image := d.image, draw := d.draw }) := by
  rw [State.intake, h]

theorem step_of_decode (ha : admitted s.cfg = true) {w : Cmd64} (hin : s.intake = some (w, t)) {i : Instr}
    (hw : decode w = .ok i) : step s = exec i t := by
  simp only [step, if_pos ha, hin, hw]

theorem step_next_of_admitted (ha : admitted s.cfg = true) : ∃ t, step s = .next t := by
  cases hin : s.intake with
  | none => exact ⟨s, by simp only [step, if_pos ha, hin]⟩
  | some wt =>
    obtain ⟨w, t⟩ := wt
    cases hw : decode w with
    | ok i => rw [step_of_decode ha hin hw]; exact exec_next i t
    | error e => exact ⟨t.refuse, by simp only [step, if_pos ha, hin, hw]⟩

/-! ### Errors change nothing (00_scope.md R8) -/

/-- A transaction of the core answers a value or faults; it has no error. -/
theorem State.perform_response_ne_err (s : State) (op : BusOp) (e : Err) :
    (s.perform op).response ≠ some (.err e) := by
  rcases s.perform_cases op with ⟨a, b, -, h⟩ | ⟨a, v, t, -, -, h⟩ | ⟨a, h⟩ <;> simp [h]

/-- Where the state after answers an error, it is the state before with that answer. -/
def State.ErrorInPlace (s t : State) : Prop := ∀ e, t.response = some (.err e) → t = s.fail e

namespace State.ErrorInPlace

theorem of_no_error (h : ∀ e, t.response ≠ some (.err e)) : s.ErrorInPlace t := fun e he => absurd he (h e)

theorem fail {e : Err} : s.ErrorInPlace (s.fail e) := by
  intro e' he
  obtain rfl : e = e' := by simpa using he
  rfl

theorem reply {u : State} {v : Value} : s.ErrorInPlace (u.reply v) := of_no_error (by simp)

theorem refuse {u : State} : s.ErrorInPlace u.refuse := of_no_error (by simp)

theorem raiseFault {u : State} {f : Fault} : s.ErrorInPlace (u.raiseFault f) := of_no_error (by simp)

theorem command {f : State → State} (h : s.ErrorInPlace (f s)) : s.ErrorInPlace (s.command f) := by
  rcases s.command_cases f with ⟨-, hc⟩ | ⟨-, hc⟩ <;> rw [hc]
  · exact refuse
  · exact h

theorem unlessHalted {f : State → State} (h : s.ErrorInPlace (f s)) : s.ErrorInPlace (s.unlessHalted f) := by
  rcases s.unlessHalted_cases f with ⟨-, hc⟩ | ⟨-, hc⟩ <;> rw [hc]
  · exact fail
  · exact h

theorem whenReady {f : State → State} (h : s.ErrorInPlace (f s)) : s.ErrorInPlace (s.whenReady f) := by
  rcases s.whenReady_cases f with ⟨-, hc⟩ | ⟨-, -, hc⟩ <;> rw [hc]
  · exact fail
  · exact h

theorem busRead (s : State) (a : Addr) : s.ErrorInPlace (s.busRead a) := by
  unfold State.busRead
  split
  · exact reply
  · exact raiseFault

theorem perform (s : State) (op : BusOp) : s.ErrorInPlace (s.perform op) :=
  of_no_error (s.perform_response_ne_err op)

/-- Every command but INIT and RUNF leaves the block as it was where it answers an error. -/
theorem of_exec {i : Instr} (h : exec i s = .next t) (hinit : i ≠ .init) (hrunf : i ≠ .runf) :
    s.ErrorInPlace t := by
  cases i <;> obtain rfl := Host.Outcome.next.inj h <;> apply command
  case brd a => split_ifs; exacts [perform s (.read a), refuse]
  case bwr a v => split_ifs; exacts [perform s (.write a v), refuse]
  case drd a => exact whenReady (busRead s a)
  case dwr a v => exact whenReady (perform s (.write a v))
  case init => exact absurd rfl hinit
  case ldrom k => split_ifs; exacts [fail, fail, fail, reply]
  case start => split_ifs; exacts [fail, reply]
  case runf => exact absurd rfl hrunf
  case reset => split_ifs; exacts [fail, reply]
  case shutdown => split_ifs; exacts [reply, reply]
  case updin p0 p1 => exact whenReady reply
  case stats => exact whenReady reply
  case alloc r n => apply unlessHalted; split; exacts [reply, fail]
  case free r => exact unlessHalted reply
  case gbase r => exact unlessHalted reply
  case gsize r => exact unlessHalted reply
  case map r lo hi ro => apply unlessHalted; split; exacts [reply, fail]
  case asrd a => exact unlessHalted reply
  case aswr a v => exact unlessHalted reply

end State.ErrorInPlace

/-- INIT's own error halts the scheduler and changes nothing else (42_driver_lifecycle.md R223). -/
theorem execInit_error {e : Err} (h : execInit s = .next t) (he : t.response = some (.err e)) :
    t = s.fail e ∨ (e = .allocation ∧ t = (s.setSched .haltedError).fail e) := by
  obtain rfl := Host.Outcome.next.inj h
  rcases s.command_cases _ with ⟨-, hc⟩ | ⟨-, hc⟩ <;> rw [hc] at he ⊢
  · simp at he
  · split_ifs at he ⊢
    · exact .inl (State.ErrorInPlace.fail e he)
    · cases ha : s.allocPlanes driverPlanes with
      | none =>
        simp only [ha] at he ⊢
        obtain rfl : Err.allocation = e := by simpa using he
        exact .inr ⟨rfl, rfl⟩
      | some u => simp [ha] at he

/-- The core's traffic that raises a fault answers no error: the transactions answer none, and without one there is no
fault. -/
theorem State.runBody_fault_response {ops : List BusOp} (hs : s.fault = none) (h : (s.runBody ops).fault ≠ none)
    (e : Err) : (s.runBody ops).response ≠ some (.err e) := by
  have key : (s.runBody ops).fault = none ∨ ∀ e, (s.runBody ops).response ≠ some (.err e) :=
    State.runBody_induct (fun u => u.fault = none ∨ ∀ e, u.response ≠ some (.err e))
      (fun u op _ => .inr (u.perform_response_ne_err op)) ops s (.inl hs)
  exact key.resolve_left h e

/-- An error of RUNF is StateError, which changes nothing, or ExecutionError (43_frame_scheduler.md R269). -/
theorem execRunf_error {e : Err} (h : execRunf s = .next t) (he : t.response = some (.err e)) :
    t = s.fail e ∨ e = .execution := by
  obtain rfl := Host.Outcome.next.inj h
  rcases s.command_cases _ with ⟨-, hc⟩ | ⟨hf, hc⟩ <;> rw [hc] at he ⊢
  · simp at he
  · dsimp only at he ⊢
    split_ifs at he ⊢ with hrun hfault hok
    · exact .inl (State.ErrorInPlace.fail e he)
    · have hb : ((frameStart s).runBody s.draw.body).fault ≠ none := by
        rw [State.execute_eq_runBody, State.setInExecute_fault] at hfault
        exact Option.isSome_iff_ne_none.1 hfault
      exact absurd he (State.runBody_fault_response (s := frameStart s) hf hb e)
    · simp at he
    · exact .inr (by simpa using he.symm)

/-! ### The obligations -/

/-- Settles O9: the model's nine checks are those of R6, and under them every arm of the step answers a next state. -/
theorem exactlyInadmissibleConfigurationsAreRefused : Obligations.ExactlyInadmissibleConfigurationsAreRefused := by
  unfold Obligations.ExactlyInadmissibleConfigurationsAreRefused
  have hnext (s : State) (h : Admissible s.cfg) : ∃ t, step s = .next t :=
    step_next_of_admitted (admitted_iff_admissible.2 h)
  refine ⟨fun s => ⟨⟨fun hr hadm => ?_, fun hn => ?_⟩, hnext s⟩, admitted_iff_admissible.1 (by decide)⟩
  · obtain ⟨t, ht⟩ := hnext s hadm
    rw [ht] at hr
    cases hr
  · exact step_of_not_admitted (mt admitted_iff_admissible.1 hn)

/-- Settles O52: INIT and RUNF by their own errors, every other command by `State.ErrorInPlace.of_exec`. -/
theorem errorsChangeNothing : Obligations.ErrorsChangeNothing := by
  unfold Obligations.ErrorsChangeNothing
  intro i s t e h he
  by_cases hinit : i = .init
  · subst hinit
    rcases execInit_error h he with ht | ⟨ha, ht⟩
    · exact .inl ht
    · exact .inr (.inl ⟨rfl, ha, ht⟩)
  by_cases hrunf : i = .runf
  · subst hrunf
    rcases execRunf_error h he with ht | hx
    · exact .inl ht
    · exact .inr (.inr ⟨rfl, hx⟩)
  exact .inl (State.ErrorInPlace.of_exec h hinit hrunf e he)

/-- Settles O6: intake presents the first submission, and its word decodes. -/
theorem stepRunsTheSubmittedCommand : Obligations.StepRunsTheSubmittedCommand := by
  unfold Obligations.StepRunsTheSubmittedCommand
  intro s d ds i ha hp hw
  exact step_of_decode ha (State.intake_cons hp) hw

/-- Settles O10: every arm of `exec` is a next state. -/
theorem everyCommandAnswersANextState : Obligations.EveryCommandAnswersANextState := exec_next

end Sys2Proof.Machine
end

section
/-! The statements of 10_state.md: who writes each field (R37), the trace of calls to the core (R35), the fault and the
refused flag (R33, R34), and the invariant (R22, R24, R26, R31) with a new session (R38). -/

namespace Sys2Proof.Machine

variable {s t : State} {i : Instr}

/-! ### What the lifecycle and scheduler commands can do -/

/-- INIT (42_driver_lifecycle.md R223). -/
theorem execInit_cases (h : execInit s = .next t) :
    (s.fault ≠ none ∧ t = s.refuse) ∨
    (s.fault = none ∧ (s.sched ≠ .idle ∨ s.ready = true) ∧ t = s.fail .state) ∨
    (s.fault = none ∧ s.sched = .idle ∧ s.ready = false ∧ s.allocPlanes driverPlanes = none ∧
      t = (s.setSched .haltedError).fail .allocation) ∨
    (∃ u, s.fault = none ∧ s.sched = .idle ∧ s.ready = false ∧ s.allocPlanes driverPlanes = some u ∧
      t = (((u.mapPlanes driverPlanes).deviceDefaults).setReady true).reply .none) := by
  obtain rfl := Host.Outcome.next.inj h
  rcases s.command_cases _ with ⟨hf, hc⟩ | ⟨hf, hc⟩ <;> rw [hc]
  · exact .inl ⟨hf, rfl⟩
  · refine .inr ?_
    split_ifs with hs
    · exact .inl ⟨hf, hs, rfl⟩
    · obtain ⟨hidle, hready⟩ : s.sched = .idle ∧ s.ready = false := by simpa using hs
      cases ha : s.allocPlanes driverPlanes with
      | none => exact .inr (.inl ⟨hf, hidle, hready, rfl, rfl⟩)
      | some u => exact .inr (.inr ⟨u, hf, hidle, hready, rfl, rfl⟩)

/-- START (43_frame_scheduler.md R262). -/
theorem execStart_cases (h : execStart s = .next t) :
    (s.fault ≠ none ∧ t = s.refuse) ∨
    (s.fault = none ∧ (s.sched ≠ .idle ∨ s.ready = false ∨ allLoaded s.romLoaded = false) ∧ t = s.fail .state) ∨
    (s.fault = none ∧ s.sched = .idle ∧ s.ready = true ∧ allLoaded s.romLoaded = true ∧
      t = (s.setSched .running).reply .none) := by
  obtain rfl := Host.Outcome.next.inj h
  rcases s.command_cases _ with ⟨hf, hc⟩ | ⟨hf, hc⟩ <;> rw [hc]
  · exact .inl ⟨hf, rfl⟩
  · refine .inr ?_
    split_ifs with hs
    · exact .inl ⟨hf, hs, rfl⟩
    · obtain ⟨hidle, hready, hrom⟩ : s.sched = .idle ∧ s.ready = true ∧ allLoaded s.romLoaded = true := by
        simpa using hs
      exact .inr ⟨hf, hidle, hready, hrom, rfl⟩

/-- RUNF (43_frame_scheduler.md R263, R269). -/
theorem execRunf_cases (h : execRunf s = .next t) :
    (s.fault ≠ none ∧ t = s.refuse) ∨
    (s.fault = none ∧ s.sched ≠ .running ∧ t = s.fail .state) ∨
    (s.fault = none ∧ s.sched = .running ∧ s.execute.fault ≠ none ∧ t = s.execute) ∨
    (s.fault = none ∧ s.sched = .running ∧ s.execute.fault = none ∧ s.draw.success = false ∧
      t = s.execute.fail .execution) ∨
    (s.fault = none ∧ s.sched = .running ∧ s.execute.fault = none ∧ s.draw.success = true ∧
      t = s.execute.finishFrame.reply .none) := by
  obtain rfl := Host.Outcome.next.inj h
  rcases s.command_cases _ with ⟨hf, hc⟩ | ⟨hf, hc⟩ <;> rw [hc]
  · exact .inl ⟨hf, rfl⟩
  · refine .inr ?_
    dsimp only
    split_ifs with hs hfault hok
    · exact .inl ⟨hf, hs, rfl⟩
    · exact .inr (.inl ⟨hf, not_not.1 hs, Option.isSome_iff_ne_none.1 hfault, rfl⟩)
    · exact .inr (.inr (.inr ⟨hf, not_not.1 hs, by simpa using hfault, hok, rfl⟩))
    · exact .inr (.inr (.inl ⟨hf, not_not.1 hs, by simpa using hfault, by simpa using hok, rfl⟩))

/-- RESET (43_frame_scheduler.md R265). -/
theorem execReset_cases (h : execReset s = .next t) :
    (s.fault ≠ none ∧ t = s.refuse) ∨
    (s.fault = none ∧ s.sched ≠ .running ∧ t = s.fail .state) ∨
    (s.fault = none ∧ s.sched = .running ∧
      t = (((s.driverReset.emit .cpuReset).emit (.setReg s.cfg.regPc Config.resetPc)).emit
        (.setReg s.cfg.regSp (stackTop s.cfg))).reply .none) := by
  obtain rfl := Host.Outcome.next.inj h
  rcases s.command_cases _ with ⟨hf, hc⟩ | ⟨hf, hc⟩ <;> rw [hc]
  · exact .inl ⟨hf, rfl⟩
  · refine .inr ?_
    split_ifs with hs
    · exact .inl ⟨hf, hs, rfl⟩
    · exact .inr ⟨hf, not_not.1 hs, rfl⟩

/-- SHUTDOWN (42_driver_lifecycle.md R226). -/
theorem execShutdown_cases (h : execShutdown s = .next t) :
    (s.fault ≠ none ∧ t = s.refuse) ∨
    (s.fault = none ∧ s.ready = false ∧ t = s.reply .none) ∨
    (s.fault = none ∧ s.ready = true ∧
      t = ((driverPlanes.foldl (fun u p => u.release (planeId p)) (s.setSched .idle)).setReady false).reply .none) := by
  obtain rfl := Host.Outcome.next.inj h
  rcases s.command_cases _ with ⟨hf, hc⟩ | ⟨hf, hc⟩ <;> rw [hc]
  · exact .inl ⟨hf, rfl⟩
  · refine .inr ?_
    split_ifs with hs
    · exact .inr ⟨hf, hs, rfl⟩
    · exact .inl ⟨hf, by simpa using hs, rfl⟩

/-! ### Who writes each field (10_state.md R37) -/

/-- The state after differs from the state before only in fields that command `i` writes (10_state.md R37). The
configuration and the inputs are written by none, and the refused flag is never cleared (R34). -/
structure State.WrittenBy (i : Instr) (s t : State) : Prop where
  sched : t.sched ≠ s.sched → i = .init ∨ i = .start ∨ i = .shutdown
  ready : t.ready ≠ s.ready → i = .init ∨ i = .shutdown
  regions : t.regions ≠ s.regions →
    i = .init ∨ (∃ k, i = .ldrom k) ∨ i = .runf ∨ i = .reset ∨ i = .shutdown ∨ (∃ r n, i = .alloc r n) ∨
    (∃ r, i = .free r) ∨ (∃ a v, i = .bwr a v) ∨ (∃ a v, i = .dwr a v) ∨ ∃ a v, i = .aswr a v
  pages : t.pages ≠ s.pages → i = .init ∨ i = .shutdown ∨ (∃ r, i = .free r) ∨ ∃ r lo hi ro, i = .map r lo hi ro
  ie : t.ie ≠ s.ie → i = .init ∨ i = .reset ∨ i = .runf ∨ (∃ a v, i = .bwr a v) ∨ ∃ a v, i = .dwr a v
  flip : t.flip ≠ s.flip → i = .init ∨ i = .reset ∨ i = .runf ∨ (∃ a v, i = .bwr a v) ∨ ∃ a v, i = .dwr a v
  sprite : t.sprite ≠ s.sprite → i = .init ∨ i = .runf ∨ (∃ a v, i = .bwr a v) ∨ ∃ a v, i = .dwr a v
  inputs : t.in0 ≠ s.in0 ∨ t.in1 ≠ s.in1 → i = .init ∨ ∃ p0 p1, i = .updin p0 p1
  frameCount : t.frameCount ≠ s.frameCount → i = .init ∨ i = .runf
  romLoaded : t.romLoaded ≠ s.romLoaded → i = .init ∨ ∃ k, i = .ldrom k
  cpuOut : t.cpuOut ≠ s.cpuOut → i = .runf ∨ i = .reset
  inExecute : t.inExecute ≠ s.inExecute → i = .runf
  refused : s.refused = true → t.refused = true
  given : t.cfg = s.cfg ∧ t.pending = s.pending ∧ t.image = s.image ∧ t.draw = s.draw

namespace State.WrittenBy

theorem refuse : State.WrittenBy i s s.refuse := by constructor <;> simp

theorem fail {e : Err} : State.WrittenBy i s (s.fail e) := by constructor <;> simp

theorem reply {v : Value} : State.WrittenBy i s (s.reply v) := by constructor <;> simp

theorem command {f : State → State} (h : State.WrittenBy i s (f s)) : State.WrittenBy i s (s.command f) := by
  rcases s.command_cases f with ⟨-, hc⟩ | ⟨-, hc⟩ <;> rw [hc]
  · exact refuse
  · exact h

theorem unlessHalted {f : State → State} (h : State.WrittenBy i s (f s)) : State.WrittenBy i s (s.unlessHalted f) := by
  rcases s.unlessHalted_cases f with ⟨-, hc⟩ | ⟨-, hc⟩ <;> rw [hc]
  · exact fail
  · exact h

theorem whenReady {f : State → State} (h : State.WrittenBy i s (f s)) : State.WrittenBy i s (s.whenReady f) := by
  rcases s.whenReady_cases f with ⟨-, hc⟩ | ⟨-, -, hc⟩ <;> rw [hc]
  · exact fail
  · exact h

theorem coreRead (s : State) (a : Addr) : State.WrittenBy i s (s.coreRead a) := by
  unfold State.coreRead
  split <;> constructor <;> simp

theorem busWrite (s : State) (a : Addr) (v : Byte) (hi : i = .bwr a v ∨ i = .dwr a v) :
    State.WrittenBy i s (s.busWrite a v) := by
  change State.WrittenBy i s (s.perform (.write a v))
  rcases hi with rfl | rfl <;> constructor <;> simp

theorem busRead (s : State) (a : Addr) : State.WrittenBy i s (s.busRead a) := by
  unfold State.busRead
  split
  · exact reply
  · constructor <;> simp

theorem init (h : execInit s = .next t) : State.WrittenBy .init s t := by
  rcases execInit_cases h with ⟨-, rfl⟩ | ⟨-, -, rfl⟩ | ⟨-, -, -, -, rfl⟩ | ⟨u, -, -, -, ha, rfl⟩
  · exact refuse
  · exact fail
  · constructor <;> simp
  · rw [State.allocPlanes_eq _ ha]
    constructor <;> simp [State.deviceDefaults]

theorem start (h : execStart s = .next t) : State.WrittenBy .start s t := by
  rcases execStart_cases h with ⟨-, rfl⟩ | ⟨-, -, rfl⟩ | ⟨-, -, -, -, rfl⟩
  · exact refuse
  · exact fail
  · constructor <;> simp

theorem runf (h : execRunf s = .next t) : State.WrittenBy .runf s t := by
  rcases execRunf_cases h with ⟨-, rfl⟩ | ⟨-, -, rfl⟩ | ⟨-, -, -, rfl⟩ | ⟨-, -, -, -, rfl⟩ | ⟨-, -, -, -, rfl⟩
  · exact refuse
  · exact fail
  all_goals constructor <;> simp

theorem reset (h : execReset s = .next t) : State.WrittenBy .reset s t := by
  rcases execReset_cases h with ⟨-, rfl⟩ | ⟨-, -, rfl⟩ | ⟨-, -, rfl⟩
  · exact refuse
  · exact fail
  · constructor <;> simp

theorem shutdown (h : execShutdown s = .next t) : State.WrittenBy .shutdown s t := by
  rcases execShutdown_cases h with ⟨-, rfl⟩ | ⟨-, -, rfl⟩ | ⟨-, -, rfl⟩
  · exact refuse
  · exact reply
  · constructor <;> simp [driverPlanes]

/-- Every command writes only its own fields (10_state.md R37). -/
theorem of_exec (h : exec i s = .next t) : State.WrittenBy i s t := by
  cases i
  case init => exact init h
  case start => exact start h
  case runf => exact runf h
  case reset => exact reset h
  case shutdown => exact shutdown h
  all_goals obtain rfl := Host.Outcome.next.inj h; apply command
  case brd a => split_ifs; exacts [coreRead s a, refuse]
  case bwr a v => split_ifs; exacts [busWrite s a v (.inl rfl), refuse]
  case drd a => exact whenReady (busRead s a)
  case dwr a v => exact whenReady (busWrite s a v (.inr rfl))
  case ldrom k => split_ifs; exacts [fail, fail, fail, by constructor <;> simp]
  case updin p0 p1 => apply whenReady; constructor <;> simp
  case stats => exact whenReady reply
  case alloc r n =>
    apply unlessHalted
    split
    next u hu => obtain ⟨-, -, -, -, rfl⟩ := State.alloc_eq_some.1 hu; constructor <;> simp
    next => exact fail
  case free r => apply unlessHalted; constructor <;> simp
  case gbase r => exact unlessHalted reply
  case gsize r => exact unlessHalted reply
  case map r lo hi ro =>
    apply unlessHalted
    split
    next u hu => rw [State.mapRange_eq hu]; constructor <;> simp
    next => exact fail
  case asrd a => exact unlessHalted reply
  case aswr a v => apply unlessHalted; constructor <;> simp

end State.WrittenBy

/-! ### The calls to the core (10_state.md R35) -/

theorem lineLevel_concat (es : List CoreCall) (e : CoreCall) :
    lineLevel (es ++ [e]) = (irqState e).getD (lineLevel es) := by
  cases h : irqState e <;> simp [lineLevel, h]

/-- Calls are only appended, none of them `hold` or `pulse`, and the line, clear before, is clear after. -/
def State.AppendsCalls (s t : State) : Prop :=
  (∃ es, t.cpuOut = s.cpuOut ++ es ∧ ∀ l, .irqLine l .hold ∉ es ∧ .irqLine l .pulse ∉ es) ∧
  (lineLevel s.cpuOut = .clear → lineLevel t.cpuOut = .clear)

namespace State.AppendsCalls

variable {u : State}

theorem of_eq (h : t.cpuOut = s.cpuOut) : s.AppendsCalls t := ⟨⟨[], by simp [h]⟩, by simp [h]⟩

theorem congr (h : s.AppendsCalls u) (ht : t.cpuOut = u.cpuOut) : s.AppendsCalls t := by
  rwa [State.AppendsCalls, ht]

/-- A call that does not speak of the line leaves its level. -/
theorem emit (h : s.AppendsCalls u) {e : CoreCall} (he : irqState e = none) : s.AppendsCalls (u.emit e) := by
  obtain ⟨⟨es, hes, hno⟩, hclear⟩ := h
  have hne : ∀ l st, CoreCall.irqLine l st ≠ e := by rintro l st rfl; cases he
  exact ⟨⟨es ++ [e], by simp [hes], by simp [hno, hne]⟩, by simpa [lineLevel_concat, he] using hclear⟩

/-- The pulse leaves the line clear (43_frame_scheduler.md R264). -/
theorem pulse (h : s.AppendsCalls u) : s.AppendsCalls u.pulse := by
  obtain ⟨⟨es, hes, hno⟩, -⟩ := h
  refine ⟨⟨es ++ [.irqLine u.cfg.irqLine .assert, .irqLine u.cfg.irqLine .clear], ?_, by simp [hno]⟩, fun _ => ?_⟩
  · simp [State.pulse, hes]
  · rw [State.pulse, State.emit_cpuOut, lineLevel_concat]; rfl

theorem execute (s : State) : s.AppendsCalls s.execute :=
  ((of_eq rfl).emit (u := s) (e := .execute (cycleBudget s.cfg)) rfl).congr s.execute_cpuOut

theorem finishFrame (h : s.AppendsCalls u) : s.AppendsCalls u.finishFrame := by
  unfold State.finishFrame
  split_ifs
  · exact h.pulse.congr rfl
  · exact h.congr rfl

theorem runf (h : execRunf s = .next t) : s.AppendsCalls t := by
  rcases execRunf_cases h with ⟨-, rfl⟩ | ⟨-, -, rfl⟩ | ⟨-, -, -, rfl⟩ | ⟨-, -, -, -, rfl⟩ | ⟨-, -, -, -, rfl⟩
  · exact of_eq rfl
  · exact of_eq rfl
  · exact execute s
  · exact (execute s).congr rfl
  · exact (execute s).finishFrame.congr rfl

theorem reset (h : execReset s = .next t) : s.AppendsCalls t := by
  rcases execReset_cases h with ⟨-, rfl⟩ | ⟨-, -, rfl⟩ | ⟨-, -, rfl⟩
  · exact of_eq rfl
  · exact of_eq rfl
  · exact ((((of_eq s.driverReset_cpuOut).emit rfl).emit rfl).emit rfl).congr rfl

/-- Only RUNF and RESET make calls (10_state.md R37). -/
theorem of_exec (h : exec i s = .next t) : s.AppendsCalls t := by
  by_cases hout : t.cpuOut = s.cpuOut
  · exact of_eq hout
  · rcases (State.WrittenBy.of_exec h).cpuOut hout with rfl | rfl
    · exact runf h
    · exact reset h

end State.AppendsCalls

/-! ### The parts of the invariant, command by command -/

namespace State.TablesInv

/-- An operation that leaves the configuration and both tables. -/
theorem of_eq (h : s.TablesInv) (hr : t.regions = s.regions) (hp : t.pages = s.pages) (hc : t.cfg = s.cfg) :
    t.TablesInv := h.kept (.of_eq hr hp) hc

theorem init (h : s.TablesInv) (ht : execInit s = .next t) : t.TablesInv := by
  rcases execInit_cases ht with ⟨-, rfl⟩ | ⟨-, -, rfl⟩ | ⟨-, -, -, -, rfl⟩ | ⟨u, -, -, -, ha, rfl⟩
  iterate 3 exact h.of_eq rfl rfl rfl
  have hmap : (u.mapPlanes driverPlanes).TablesInv := (h.allocPlanes _ ha).mapPlanes _
  refine hmap.of_eq ?_ ?_ ?_ <;> simp [State.deviceDefaults]

theorem runf (h : s.TablesInv) (ht : execRunf s = .next t) : t.TablesInv := by
  have hx : s.execute.TablesInv := h.kept (.execute s) s.execute_cfg
  rcases execRunf_cases ht with ⟨-, rfl⟩ | ⟨-, -, rfl⟩ | ⟨-, -, -, rfl⟩ | ⟨-, -, -, -, rfl⟩ | ⟨-, -, -, -, rfl⟩
  · exact h.of_eq rfl rfl rfl
  · exact h.of_eq rfl rfl rfl
  · exact hx
  · exact hx.of_eq rfl rfl rfl
  · refine hx.of_eq ?_ ?_ ?_ <;> simp

theorem reset (h : s.TablesInv) (ht : execReset s = .next t) : t.TablesInv := by
  rcases execReset_cases ht with ⟨-, rfl⟩ | ⟨-, -, rfl⟩ | ⟨-, -, rfl⟩
  · exact h.of_eq rfl rfl rfl
  · exact h.of_eq rfl rfl rfl
  · refine State.TablesInv.of_eq (h.kept (.driverReset s) s.driverReset_cfg) ?_ ?_ ?_ <;> simp

theorem shutdown (h : s.TablesInv) (ht : execShutdown s = .next t) : t.TablesInv := by
  rcases execShutdown_cases ht with ⟨-, rfl⟩ | ⟨-, -, rfl⟩ | ⟨-, -, rfl⟩
  · exact h.of_eq rfl rfl rfl
  · exact h.of_eq rfl rfl rfl
  · have hs : (s.setSched .idle).TablesInv := h.of_eq rfl rfl rfl
    have hfreed : (driverPlanes.foldl (fun u p => u.release (planeId p)) (s.setSched .idle)).TablesInv :=
      (((hs.release _).release _).release _).release _
    refine hfreed.of_eq ?_ ?_ ?_ <;> simp

theorem loadRom (h : s.TablesInv) (base : Nat) (img : List Byte) : (s.loadRom base img).TablesInv :=
  h.kept (.loadRom s base img) (s.loadRom_cfg base img)

theorem perform (h : s.TablesInv) (op : BusOp) : (s.perform op).TablesInv :=
  h.kept (.perform s op) (s.perform_cfg op)

theorem asWrite (h : s.TablesInv) (a : Addr) (v : Byte) : (s.asWrite a v).TablesInv :=
  h.kept (.asWrite s a v) (s.asWrite_cfg a v)

theorem command (h : s.TablesInv) {f : State → State} (hf : (f s).TablesInv) : (s.command f).TablesInv := by
  rcases s.command_cases f with ⟨-, hc⟩ | ⟨-, hc⟩ <;> rw [hc]
  · exact h.of_eq rfl rfl rfl
  · exact hf

theorem unlessHalted (h : s.TablesInv) {f : State → State} (hf : (f s).TablesInv) :
    (s.unlessHalted f).TablesInv := by
  rcases s.unlessHalted_cases f with ⟨-, hc⟩ | ⟨-, hc⟩ <;> rw [hc]
  · exact h.of_eq rfl rfl rfl
  · exact hf

theorem whenReady (h : s.TablesInv) {f : State → State} (hf : (f s).TablesInv) : (s.whenReady f).TablesInv := by
  rcases s.whenReady_cases f with ⟨-, hc⟩ | ⟨-, -, hc⟩ <;> rw [hc]
  · exact h.of_eq rfl rfl rfl
  · exact hf

/-- The commands that write the regions or the pages keep their invariant; the others leave both tables. -/
theorem of_exec (h : s.TablesInv) (ht : exec i s = .next t) : t.TablesInv := by
  have hw := State.WrittenBy.of_exec ht
  have hinit (hi : i = .init) : t.TablesInv := by subst hi; exact h.init ht
  have hshutdown (hi : i = .shutdown) : t.TablesInv := by subst hi; exact h.shutdown ht
  have hfree (r : RegionId) (hi : i = .free r) : t.TablesInv := by
    subst hi
    obtain rfl := Host.Outcome.next.inj ht
    exact h.command (h.unlessHalted ((h.release r).of_eq rfl rfl rfl))
  by_cases hr : t.regions = s.regions
  · by_cases hp : t.pages = s.pages
    · exact h.of_eq hr hp hw.given.1
    · rcases hw.pages hp with hi | hi | ⟨r, hi⟩ | ⟨r, lo, hi, ro, rfl⟩
      · exact hinit hi
      · exact hshutdown hi
      · exact hfree r hi
      · obtain rfl := Host.Outcome.next.inj ht
        apply h.command; apply h.unlessHalted
        split
        next u hu => exact (h.mapRange hu).of_eq rfl rfl rfl
        next => exact h.of_eq rfl rfl rfl
  · rcases hw.regions hr with
      hi | ⟨k, rfl⟩ | rfl | rfl | hi | ⟨r, n, rfl⟩ | ⟨r, hi⟩ | ⟨a, v, rfl⟩ | ⟨a, v, rfl⟩ | ⟨a, v, rfl⟩
    · exact hinit hi
    · obtain rfl := Host.Outcome.next.inj ht
      apply h.command
      split_ifs
      iterate 3 exact h.of_eq rfl rfl rfl
      exact (h.loadRom _ _).of_eq rfl rfl rfl
    · exact h.runf ht
    · exact h.reset ht
    · exact hshutdown hi
    · obtain rfl := Host.Outcome.next.inj ht
      apply h.command; apply h.unlessHalted
      split
      next u hu => exact (h.alloc hu).of_eq rfl rfl rfl
      next => exact h.of_eq rfl rfl rfl
    · exact hfree r hi
    · obtain rfl := Host.Outcome.next.inj ht
      apply h.command
      split_ifs
      · exact h.perform (.write a v)
      · exact h.of_eq rfl rfl rfl
    · obtain rfl := Host.Outcome.next.inj ht
      exact h.command (h.whenReady (h.perform (.write a v)))
    · obtain rfl := Host.Outcome.next.inj ht
      exact h.command (h.unlessHalted ((h.asWrite a v).of_eq rfl rfl rfl))

end State.TablesInv

/-- Ready and the scheduler's state fit together (10_state.md R22, 42_driver_lifecycle.md R223). -/
theorem readyFits_of_exec (h : exec i s = .next t)
    (hs : (s.sched = .running → s.ready = true) ∧ (s.sched = .haltedError → s.ready = false)) :
    (t.sched = .running → t.ready = true) ∧ (t.sched = .haltedError → t.ready = false) := by
  have hw := State.WrittenBy.of_exec h
  by_cases hinit : i = .init
  · subst hinit
    rcases execInit_cases h with ⟨-, rfl⟩ | ⟨-, -, rfl⟩ | ⟨-, -, hready, -, rfl⟩ | ⟨u, -, hidle, -, ha, rfl⟩
    · exact hs
    · exact hs
    · simp [hready]
    · rw [State.allocPlanes_eq _ ha]; simp [State.deviceDefaults, hidle]
  by_cases hstart : i = .start
  · subst hstart
    rcases execStart_cases h with ⟨-, rfl⟩ | ⟨-, -, rfl⟩ | ⟨-, -, hready, -, rfl⟩
    · exact hs
    · exact hs
    · simp [hready]
  by_cases hshutdown : i = .shutdown
  · subst hshutdown
    rcases execShutdown_cases h with ⟨-, rfl⟩ | ⟨-, -, rfl⟩ | ⟨-, -, rfl⟩
    · exact hs
    · exact hs
    · simp [driverPlanes]
  · have hsched : t.sched = s.sched := by_contra fun hne => by simpa [*] using hw.sched hne
    have hready : t.ready = s.ready := by_contra fun hne => by simpa [*] using hw.ready hne
    rwa [hsched, hready]

/-- The frame counter fits its width (10_state.md R31): INIT clears it, RUNF counts modulo the width. -/
theorem frameCountFits_of_exec (h : exec i s = .next t) (hs : s.frameCount < 2 ^ s.cfg.frameCounterBits) :
    t.frameCount < 2 ^ t.cfg.frameCounterBits := by
  have hw := State.WrittenBy.of_exec h
  obtain ⟨hcfg, -⟩ := hw.given
  rw [hcfg]
  by_cases hf : t.frameCount = s.frameCount
  · rwa [hf]
  rcases hw.frameCount hf with rfl | rfl
  · rcases execInit_cases h with ⟨-, rfl⟩ | ⟨-, -, rfl⟩ | ⟨-, -, -, -, rfl⟩ | ⟨u, -, -, -, -, rfl⟩
    iterate 3 exact hs
    simp [State.deviceDefaults]
  · rcases execRunf_cases h with ⟨-, rfl⟩ | ⟨-, -, rfl⟩ | ⟨-, -, -, rfl⟩ | ⟨-, -, -, -, rfl⟩ | ⟨-, -, -, -, rfl⟩
    iterate 4 simpa using hs
    simpa using Nat.mod_lt _ (Nat.two_pow_pos _)

/-- Only RUNF opens an `execute` call, and it closes it (00_scope.md R7). -/
theorem notInExecute_of_exec (h : exec i s = .next t) (hs : s.inExecute = false) : t.inExecute = false := by
  by_cases hx : t.inExecute = s.inExecute
  · rw [hx, hs]
  obtain rfl := (State.WrittenBy.of_exec h).inExecute hx
  rcases execRunf_cases h with ⟨-, rfl⟩ | ⟨-, -, rfl⟩ | ⟨-, -, -, rfl⟩ | ⟨-, -, -, -, rfl⟩ | ⟨-, -, -, -, rfl⟩
  all_goals simp [hs]

theorem State.Inv.tablesInv (h : s.Inv) : s.TablesInv := { h with }

/-- Every command keeps the invariant. -/
theorem State.Inv.of_exec (h : s.Inv) (ht : exec i s = .next t) : t.Inv :=
  have hready := readyFits_of_exec ht ⟨h.runningReady, h.haltedNotReady⟩
  have hcalls := State.AppendsCalls.of_exec ht
  { h.tablesInv.of_exec ht with
    runningReady := hready.1
    haltedNotReady := hready.2
    frameCountFits := frameCountFits_of_exec ht h.frameCountFits
    lineClear := hcalls.2 h.lineClear
    notInExecute := notInExecute_of_exec ht h.notInExecute }

/-! ### One step -/

/-- The frame of taking a submission (00_scope.md R9). -/
theorem State.intake_eq {w : Cmd64} {u : State} (h : s.intake = some (w, u)) :
    u = { s with pending := u.pending, image := u.image, draw := u.draw } := by
  cases hp : s.pending with
  | nil => simp [State.intake, hp] at h
  | cons d ds => rw [State.intake_cons hp] at h; cases h; rfl

/-- What a step that is not refused can do (00_scope.md R9): stay idle, refuse an undecodable word, run a command. -/
theorem step_cases (h : step s = .next t) :
    (s.intake = none ∧ t = s) ∨
    (∃ w u e, s.intake = some (w, u) ∧ decode w = .error e ∧ t = u.refuse) ∨
    (∃ w u i, s.intake = some (w, u) ∧ decode w = .ok i ∧ exec i u = .next t) := by
  unfold step at h
  split_ifs at h
  split at h
  next hin => exact .inl ⟨hin, (Host.Outcome.next.inj h).symm⟩
  next w u hin =>
    split at h
    next i hw => exact .inr (.inr ⟨w, u, i, hin, hw, h⟩)
    next e hw => exact .inr (.inl ⟨w, u, e, hin, hw, (Host.Outcome.next.inj h).symm⟩)

theorem State.Inv.intake (h : s.Inv) {w : Cmd64} {u : State} (hin : s.intake = some (w, u)) : u.Inv := by
  rw [State.intake_eq hin]; exact { h with }

/-- In a faulted state every command is refused (60_exceptions.md R306). -/
theorem exec_of_fault (h : s.fault ≠ none) (i : Instr) : exec i s = .next s.refuse := by
  have hc (f : State → State) : s.command f = s.refuse := if_pos (Option.isSome_iff_ne_none.2 h)
  cases i <;> exact congrArg Host.Outcome.next (hc _)

/-! ### The obligations -/

/-- Settles O56: taking a submission touches no field of the invariant, and every command keeps it. -/
theorem everyStepKeepsTheInvariant : Obligations.EveryStepKeepsTheInvariant := by
  unfold Obligations.EveryStepKeepsTheInvariant
  intro s t hs h
  rcases step_cases h with ⟨-, rfl⟩ | ⟨w, u, e, hin, -, rfl⟩ | ⟨w, u, i, hin, -, hx⟩
  · exact hs
  · exact { hs.intake hin with }
  · exact (hs.intake hin).of_exec hx

/-- Settles O53: the fields of `State.WrittenBy`. -/
theorem onlyItsWritersChangeAField : Obligations.OnlyItsWritersChangeAField := by
  unfold Obligations.OnlyItsWritersChangeAField
  intro i s t h
  have hw := State.WrittenBy.of_exec h
  exact ⟨hw.sched, hw.ready, hw.regions, hw.pages, hw.ie, hw.flip, hw.sprite, hw.inputs, hw.frameCount, hw.romLoaded,
    hw.cpuOut, hw.given⟩

/-- Settles O54: RUNF and RESET append their calls, and the pulse ends with `clear`. -/
theorem coreCallsAreAppendedAndTheLineEndsClear : Obligations.CoreCallsAreAppendedAndTheLineEndsClear := by
  unfold Obligations.CoreCallsAreAppendedAndTheLineEndsClear
  intro i s t h
  exact State.AppendsCalls.of_exec h

/-- Settles O55: a command of a faulted state is refused, and no command writes the configuration. -/
theorem faultAndRefusalAreNeverCleared : Obligations.FaultAndRefusalAreNeverCleared := by
  unfold Obligations.FaultAndRefusalAreNeverCleared
  intro s t h
  rcases step_cases h with ⟨-, rfl⟩ | ⟨w, u, e, hin, -, rfl⟩ | ⟨w, u, i, hin, -, hx⟩
  · exact ⟨fun _ => rfl, id, rfl⟩
  · rw [State.intake_eq hin]; exact ⟨fun _ => rfl, fun _ => rfl, rfl⟩
  · have hw := State.WrittenBy.of_exec hx
    obtain ⟨hfault, hrefused, hcfg⟩ : u.fault = s.fault ∧ u.refused = s.refused ∧ u.cfg = s.cfg := by
      rw [State.intake_eq hin]; exact ⟨rfl, rfl, rfl⟩
    refine ⟨fun hf => ?_, fun hr => hw.refused (hrefused.trans hr), hw.given.1.trans hcfg⟩
    rw [← hfault] at hf ⊢
    obtain rfl := Host.Outcome.next.inj ((exec_of_fault hf i).symm.trans hx)
    rfl

/-- Settles O57: both tables are empty, and the scheduler is Idle. -/
theorem newSessionMeetsTheInvariant : Obligations.NewSessionMeetsTheInvariant where
  regionsWf := ⟨by decide, by decide⟩
  pagesWf := ⟨by decide, by decide⟩
  regionsSized _ _ h := by cases h
  regionCount := Nat.zero_le _
  pagesBacked _ _ _ _ h := by cases h
  runningReady h := by cases h
  haltedNotReady _ := rfl
  frameCountFits := Nat.two_pow_pos _
  lineClear := rfl
  notInExecute := rfl

/-- Settles O58: what `State.reset` holds, field by field. -/
theorem newSessionIsIdleAndEmpty : Obligations.NewSessionIsIdleAndEmpty :=
  ⟨rfl, rfl, fun _ => rfl, fun _ => rfl, rfl, rfl, rfl⟩

end Sys2Proof.Machine
end

section
/-! The statements of 20_memory.md: the partition of the addresses among the windows (R63) and the open bus (R67). -/

namespace Sys2Proof.Machine

variable {s : State} {c : Cfg} {a : Addr}

/-! ### The decode function (20_memory.md R62) -/

/-- What the decode function can answer: a window's target only inside that window, UNMAPPED only outside all five. -/
theorem decodeAddr_cases (c : Cfg) (a : Addr) :
    (∃ p, decodeAddr c a = .backed p ∧ inWindow (planeWindow c p) a = true) ∨
    (decodeAddr c a = .io ∧ inWindow c.winIo a = true) ∨
    (decodeAddr c a = .unmapped ∧ ∀ w ∈ windows c, inWindow w a = false) := by
  unfold decodeAddr
  split_ifs with hrom hvram hcram hwram hio
  · exact .inl ⟨.rom, rfl, hrom⟩
  · exact .inl ⟨.vram, rfl, hvram⟩
  · exact .inl ⟨.cram, rfl, hcram⟩
  · exact .inl ⟨.wram, rfl, hwram⟩
  · exact .inr (.inl ⟨rfl, hio⟩)
  · exact .inr (.inr ⟨rfl, by simp [windows, *]⟩)

theorem inWindow_of_decodeAddr_backed {p : Plane} (h : decodeAddr c a = .backed p) :
    inWindow (planeWindow c p) a = true := by
  rcases decodeAddr_cases c a with ⟨q, hq, hw⟩ | ⟨hio, -⟩ | ⟨hun, -⟩
  · obtain rfl : p = q := Target.backed.inj (h.symm.trans hq)
    exact hw
  · simp [h] at hio
  · simp [h] at hun

theorem inWindow_of_decodeAddr_io (h : decodeAddr c a = .io) : inWindow c.winIo a = true := by
  rcases decodeAddr_cases c a with ⟨q, hq, -⟩ | ⟨-, hw⟩ | ⟨hun, -⟩
  · simp [h] at hq
  · exact hw
  · simp [h] at hun

theorem winIo_mem_windows (c : Cfg) : c.winIo ∈ windows c := by simp [windows]

/-- The priority order plays no part in what is UNMAPPED, so this needs no check of the configuration. -/
theorem decodeAddr_eq_unmapped_iff : decodeAddr c a = .unmapped ↔ ∀ w ∈ windows c, inWindow w a = false := by
  rcases decodeAddr_cases c a with ⟨p, hp, hw⟩ | ⟨hio, hw⟩ | ⟨hun, hout⟩
  · simpa [hp] using ⟨_, planeWindow_mem_windows c p, hw⟩
  · simpa [hio] using ⟨_, winIo_mem_windows c, hw⟩
  · exact iff_of_true hun hout

/-! ### At most one window contains an address (00_scope.md R6, WF1) -/

theorem mem_driverPlanes (p : Plane) : p ∈ driverPlanes := by cases p <;> decide

/-- The five windows are those of the driver regions, then the I/O window. -/
theorem windows_eq (c : Cfg) : windows c = driverPlanes.map (planeWindow c) ++ [c.winIo] := rfl

theorem Admissible.plane_unique (h : Admissible c) {p q : Plane} (hp : inWindow (planeWindow c p) a = true)
    (hq : inWindow (planeWindow c q) a = true) : p = q := by
  have hdis := h.disjoint
  rw [windows_eq, List.pairwise_append, List.pairwise_map] at hdis
  obtain ⟨hplanes, -, -⟩ := hdis
  by_contra hne
  have hsymm : Std.Symm fun p q =>
      ∀ a, ¬(inWindow (planeWindow c p) a = true ∧ inWindow (planeWindow c q) a = true) :=
    ⟨fun _ _ hpq b hb => hpq b hb.symm⟩
  exact hplanes.forall (mem_driverPlanes p) (mem_driverPlanes q) hne a ⟨hp, hq⟩

theorem Admissible.plane_apart_io (h : Admissible c) {p : Plane} (hp : inWindow (planeWindow c p) a = true) :
    ¬ inWindow c.winIo a = true := by
  have hdis := h.disjoint
  rw [windows_eq, List.pairwise_append] at hdis
  obtain ⟨-, -, hio⟩ := hdis
  exact fun hi => hio _ (List.mem_map_of_mem (mem_driverPlanes p)) _ (List.mem_singleton_self _) a ⟨hp, hi⟩

theorem Admissible.decodeAddr_eq_backed_iff (h : Admissible c) {p : Plane} :
    decodeAddr c a = .backed p ↔ inWindow (planeWindow c p) a = true := by
  refine ⟨inWindow_of_decodeAddr_backed, fun hp => ?_⟩
  rcases decodeAddr_cases c a with ⟨q, hq, hw⟩ | ⟨-, hw⟩ | ⟨-, hout⟩
  · rw [hq, h.plane_unique hp hw]
  · exact absurd hw (h.plane_apart_io hp)
  · simp [hout _ (planeWindow_mem_windows c p)] at hp

theorem Admissible.decodeAddr_eq_io_iff (h : Admissible c) : decodeAddr c a = .io ↔ inWindow c.winIo a = true := by
  refine ⟨inWindow_of_decodeAddr_io, fun hi => ?_⟩
  rcases decodeAddr_cases c a with ⟨q, -, hw⟩ | ⟨hio, -⟩ | ⟨-, hout⟩
  · exact absurd hi (h.plane_apart_io hw)
  · exact hio
  · simp [hout _ (winIo_mem_windows c)] at hi

/-- Two windows that contain `a` would be a pair of windows with a common address. -/
theorem Admissible.windows_filter_length_le_one (h : Admissible c) (a : Addr) :
    ((windows c).filter fun w => inWindow w a).length ≤ 1 := by
  have hpair : ((windows c).filter fun w => inWindow w a).Pairwise fun _ _ => False :=
    List.pairwise_filter.2 (h.disjoint.imp fun hwv hw hv => hwv a ⟨hw, hv⟩)
  match hf : (windows c).filter fun w => inWindow w a with
  | [] => simp
  | [_] => simp
  | _ :: _ :: _ =>
    rw [hf] at hpair
    exact (List.rel_of_pairwise_cons hpair List.mem_cons_self).elim

/-! ### The open bus (20_memory.md R67) -/

theorem State.memRead_of_unmapped (h : decodeAddr s.cfg a = .unmapped) : s.memRead a = some Config.openBus := by
  simp only [State.memRead, h]

theorem State.memWrite_of_unmapped (h : decodeAddr s.cfg a = .unmapped) (v : Byte) : s.memWrite a v = some s := by
  simp only [State.memWrite, h]

/-! ### The obligations -/

/-- Settles O12: the decode function answers a target only inside its window, and WF1 leaves no second window. -/
theorem eachAddressHasTheTargetOfItsWindow : Obligations.EachAddressHasTheTargetOfItsWindow := by
  unfold Obligations.EachAddressHasTheTargetOfItsWindow
  intro c a ha
  have h := admitted_iff_admissible.1 ha
  exact ⟨fun _ => h.decodeAddr_eq_backed_iff, h.decodeAddr_eq_io_iff, decodeAddr_eq_unmapped_iff,
    h.windows_filter_length_le_one a⟩

/-- Settles O14: outside every window the target is UNMAPPED, in any configuration. -/
theorem unmappedAddressIsOpenBus : Obligations.UnmappedAddressIsOpenBus := by
  unfold Obligations.UnmappedAddressIsOpenBus
  intro s a v hout
  have h := decodeAddr_eq_unmapped_iff.2 hout
  exact ⟨State.memRead_of_unmapped h, State.memWrite_of_unmapped h v⟩

end Sys2Proof.Machine
end

section
/-! The statements of 30_encoding.md: the command word (R100 to R107), the response word (R101), the pseudo-instructions
of a RUNF body (R110) and the reference address decoder (R111). -/

namespace Sys2Proof

variable {w : Cmd64} {i : Instr} {o : Opcode} {f g : Fields}

/-! ### Words and their fields (30_encoding.md R100) -/

theorem Fields.word_inj : f.word = g.word ↔ f = g :=
  ⟨fun h => by simpa using congrArg Fields.ofWord h, congrArg Fields.word⟩

theorem Fields.word_eq_iff : f.word = w ↔ f = Fields.ofWord w := by
  rw [← Fields.word_inj, Fields.word_ofWord]

/-- A mask on the word is a mask on each field. -/
theorem Fields.word_and_word (f g : Fields) :
    f.word &&& g.word = Fields.word ⟨f.op &&& g.op, f.k &&& g.k, f.a &&& g.a, f.b &&& g.b, f.d &&& g.d⟩ := by
  change (f.op ++ f.k ++ f.a ++ f.b ++ f.d : BitVec (8 + 8 + 16 + 16 + 16)) &&& (g.op ++ g.k ++ g.a ++ g.b ++ g.d) = _
  simp only [BitVec.and_append]
  rfl

/-! ### Operands in their fields (30_encoding.md R102, R104) -/

/-- The bits outside the mask are zero exactly where the mask leaves the field. -/
theorem and_not_eq_zero_iff {n : Nat} {x m : BitVec n} : x &&& ~~~m = 0 ↔ x &&& m = x := by
  constructor
  · intro h
    calc x &&& m = (x &&& m) ||| (x &&& ~~~m) := by rw [h]; simp
      _ = x &&& (m ||| ~~~m) := by rw [BitVec.and_or_distrib_left]
      _ = x := by simp
  · intro h
    rw [← h, BitVec.and_assoc, BitVec.and_not_self]; simp

/-- The byte operand in D[7:0], read and written (30_encoding.md R102). -/
theorem lowByte_setWidth (v : Byte) : (v.setWidth 16).extractLsb' 0 8 = v := by
  rw [BitVec.extractLsb'_setWidth_of_le (by omega)]; simp

theorem setWidth_lowByte (x : BitVec 16) : (x.extractLsb' 0 8).setWidth 16 = x &&& 255#16 := by
  apply BitVec.eq_of_toNat_eq
  have := Nat.and_two_pow_sub_one_eq_mod x.toNat 8
  simp [BitVec.extractLsb'_toNat] at this ⊢
  omega

/-- A command's fields give the command back in its own row. -/
theorem Opcode.instr_fields (i : Instr) : i.opcode.instr i.fields = i := by
  have hhalves (n : BitVec 32) : n.extractLsb' 16 16 ++ n.extractLsb' 0 16 = n := BitVec.extractLsb'_append_extractLsb'
  have hlo (p0 p1 : Byte) : (p1 ++ p0).extractLsb' 0 8 = p0 := BitVec.extractLsb'_append_eq_right
  have hhi (p0 p1 : Byte) : (p1 ++ p0).extractLsb' 8 8 = p1 := BitVec.extractLsb'_append_eq_left
  cases i <;> simp [Instr.opcode, Instr.fields, Opcode.instr, lowByte_setWidth, hhalves, hlo, hhi]

/-- The command a row reads from the fields keeps the row's operand bits and no other. -/
theorem Opcode.fields_instr (f : Fields) (o : Opcode) : (o.instr f).fields =
    ⟨o.code, f.k &&& o.layout.k, f.a &&& o.layout.a, f.b &&& o.layout.b, f.d &&& o.layout.d⟩ := by
  have hfull (x : BitVec 16) : x &&& 65535#16 = x := BitVec.and_allOnes
  have hfull8 (x : BitVec 8) : x &&& 255#8 = x := BitVec.and_allOnes
  have hbytes (x : BitVec 16) : x.extractLsb' 8 8 ++ x.extractLsb' 0 8 = x := BitVec.extractLsb'_append_extractLsb'
  have hhi (b d : BitVec 16) : (b ++ d).extractLsb' 16 16 = b := BitVec.extractLsb'_append_eq_left
  have hlo (b d : BitVec 16) : (b ++ d).extractLsb' 0 16 = d := BitVec.extractLsb'_append_eq_right
  cases o <;> simp [Opcode.layout, Opcode.instr, Instr.fields, Opcode.code, BitVec.and_one_eq_setWidth_ofBool_getLsbD,
    setWidth_lowByte, hfull, hfull8, hbytes, hhi, hlo]

/-- The fields carry the row's OP byte and no reserved bit exactly where the command read from them has these fields. -/
theorem Opcode.fits_iff : (o.code = f.op ∧ o.layout.admits f = true) ↔ (o.instr f).fields = f := by
  obtain ⟨op, k, a, b, d⟩ := f
  simp only [Opcode.fields_instr, Layout.admits, Bool.and_eq_true, beq_iff_eq, and_not_eq_zero_iff, Fields.mk.injEq,
    and_assoc]

/-! ### The decoder -/

/-- A row's match and mask: its OP byte, under the OP field and the row's reserved bits (30_encoding.md R103, R104). -/
theorem Opcode.matchMask_eq (o : Opcode) : o.matchMask =
    (Fields.word ⟨o.code, 0, 0, 0, 0⟩,
     Fields.word ⟨0xFF, ~~~o.layout.k, ~~~o.layout.a, ~~~o.layout.b, ~~~o.layout.d⟩) := by
  cases o <;> rfl

/-- A word matches a row under its mask exactly where its fields fit the row. -/
theorem Opcode.matches_iff : w &&& o.matchMask.2 = o.matchMask.1 ↔
    o.code = (Fields.ofWord w).op ∧ o.layout.admits (Fields.ofWord w) = true := by
  have hop : (Fields.ofWord w).op &&& 0xFF = (Fields.ofWord w).op := BitVec.and_allOnes
  conv_lhs => rw [← Fields.word_ofWord w, o.matchMask_eq]
  rw [Fields.word_and_word, Fields.word_inj]
  simp only [Fields.mk.injEq, hop, Layout.admits, Bool.and_eq_true, beq_iff_eq, and_assoc, eq_comm (a := o.code)]

theorem Opcode.ofByte_eq_some_iff {b : BitVec 8} : Opcode.ofByte b = some o ↔ o.code = b :=
  ⟨Opcode.code_of_ofByte, fun h => h ▸ o.ofByte_code⟩

/-- The decoder reads the command of the row the word matches. -/
theorem decode_eq_ok_iff : decode w = .ok i ↔
    ∃ o : Opcode, w &&& o.matchMask.2 = o.matchMask.1 ∧ o.instr (Fields.ofWord w) = i := by
  simp only [Opcode.matches_iff, ← Opcode.ofByte_eq_some_iff, decode]
  cases Opcode.ofByte (Fields.ofWord w).op with
  | none => simp
  | some o =>
    by_cases hadm : o.layout.admits (Fields.ofWord w) = true <;> simp [hadm]

/-- Decoding and encoding are inverse: a word is read as a command exactly where the command is written as the word. -/
theorem decode_eq_ok_iff_encode : decode w = .ok i ↔ encode i = w := by
  simp only [decode_eq_ok_iff, Opcode.matches_iff, Opcode.fits_iff, encode, Fields.word_eq_iff]
  constructor
  · rintro ⟨o, hfits, rfl⟩
    exact hfits
  · intro hf
    have hi : i.opcode.instr (Fields.ofWord w) = i := hf ▸ Opcode.instr_fields i
    exact ⟨i.opcode, by rw [hi, hf], hi⟩

end Sys2Proof

namespace Sys2Proof.Machine

variable {s t : State} {c : Cfg} {a : Addr}

/-! ### A word that matches no row (30_encoding.md R106) -/

theorem decode_eq_error_of_no_match {w : Cmd64} (h : ∀ o : Opcode, w &&& o.matchMask.2 ≠ o.matchMask.1) :
    ∃ e, decode w = .error e := by
  cases hw : decode w with
  | error e => exact ⟨e, rfl⟩
  | ok i =>
    obtain ⟨o, hmatch, -⟩ := decode_eq_ok_iff.1 hw
    exact absurd hmatch (h o)

theorem step_of_decode_error (ha : admitted s.cfg = true) {w : Cmd64} (hin : s.intake = some (w, t))
    {e : DecodeError} (hw : decode w = .error e) : step s = .next t.refuse := by
  simp only [step, if_pos ha, hin, hw]

/-! ### The response word (30_encoding.md R101) -/

theorem toNat_responseWord_ok (v : Value) : (responseWord (.ok v)).toNat = (valueBits v).toNat := by
  rw [responseWord, BitVec.toNat_append]
  simp

theorem toNat_valueBits_handle (r : RegionId) : (valueBits (.handle (some r))).toNat = 0x100 + r.toNat := by
  have hr := r.isLt
  rw [valueBits, BitVec.toNat_or, BitVec.toNat_setWidth, Nat.mod_eq_of_lt (by omega)]
  exact (Nat.two_pow_add_eq_or_of_lt (i := 8) hr 1).symm

theorem toNat_valueBits_size {n : Nat} (hn : n < 2 ^ 32) : (valueBits (.size (some n))).toNat = 2 ^ 32 + n := by
  rw [valueBits, BitVec.toNat_or, BitVec.toNat_ofNat, Nat.mod_eq_of_lt (by omega)]
  exact (Nat.two_pow_add_eq_or_of_lt hn 1).symm

theorem toNat_valueBits_stats (f n : Nat) :
    (valueBits (.stats f n)).toNat = min n 0xFFFFFF * 2 ^ 32 + (frameCountBits f).toNat := by
  rw [valueBits, BitVec.toNat_append, ← Nat.shiftLeft_add_eq_or_of_lt (frameCountBits f).isLt, Nat.shiftLeft_eq,
    BitVec.toNat_ofNat, Nat.mod_eq_of_lt (by omega)]

/-! ### The reference address decoder (30_encoding.md R111) -/

theorem and_allOnes_shiftLeft {n : Nat} (x : BitVec n) (k : Nat) :
    x &&& (BitVec.allOnes n <<< k) = (x >>> k) <<< k := by
  ext i hi
  by_cases h : i < k
  · simp [h]
  · simp [h, Nat.add_sub_cancel' (Nat.le_of_not_lt h), hi]

/-- Masking an address with the ones above bit `k` asks for the aligned block of 2^k addresses at the match. -/
theorem and_allOnes_shiftLeft_eq_iff_inWindow (w : Window) (k : Nat) (hlo : w.lo.toNat % 2 ^ k = 0)
    (hhi : w.hi.toNat + 1 = w.lo.toNat + 2 ^ k) (a : Addr) :
    a &&& (BitVec.allOnes 16 <<< k) = w.lo ↔ inWindow w a = true := by
  have hval : ((a >>> k) <<< k).toNat = a.toNat / 2 ^ k * 2 ^ k := by
    have hle := Nat.div_mul_le_self a.toNat (2 ^ k)
    rw [BitVec.toNat_shiftLeft, BitVec.toNat_ushiftRight, Nat.shiftLeft_eq, Nat.shiftRight_eq_div_pow]
    exact Nat.mod_eq_of_lt (hle.trans_lt a.isLt)
  obtain ⟨q, hq⟩ := Nat.dvd_of_mod_eq_zero hlo
  rw [and_allOnes_shiftLeft, ← BitVec.toNat_inj, hval, inWindow_iff, hq, Nat.mul_comm (2 ^ k) q,
    Nat.mul_left_inj (Nat.two_pow_pos k).ne', Nat.div_eq_iff (Nat.two_pow_pos k)]
  have := Nat.mul_comm (2 ^ k) q
  omega

/-! Each row of the table is decided by the target, and within the I/O window by the register addresses. -/

/-- The row of a driver region's window. -/
def planeRow : Plane → MapRow
  | .rom => .rom
  | .vram => .vram
  | .cram => .cram
  | .wram => .wram

/-- The row of an address of the I/O window. -/
def ioRow (a : Addr) : MapRow :=
  if a = 0x5000 then .in0Ie
  else if a = 0x5003 then .flip
  else if a = 0x5040 then .in1
  else if inSpriteBlock Config.reference a then .sprite
  else if a = 0x5080 then .cfg0
  else if a = 0x50C0 then .cfg1
  else .ioGap

/-- The row of an address with its target. -/
def targetRow (a : Addr) : Target → MapRow
  | .backed p => planeRow p
  | .io => ioRow a
  | .unmapped => .unmapped

/-- The first match as an elimination, which `find?_elim_cons` takes row by row. -/
theorem mapLookup_eq_elim (a : Addr) :
    mapLookup a = (mapTable.find? fun e => a &&& e.2.1 == e.1).elim .unmapped fun e => e.2.2 := by
  unfold mapLookup
  cases mapTable.find? fun e => a &&& e.2.1 == e.1 <;> rfl

theorem inSpriteBlock_reference_iff (a : Addr) :
    inSpriteBlock Config.reference a = true ↔ inWindow ⟨0x5060, 0x506F⟩ a = true := by
  simp [inSpriteBlock, inWindow, Config.reference, Config.spriteLast]

theorem find?_elim_cons {α β : Type} (p : α → Bool) (e : α) (l : List α) (d : β) (f : α → β) :
    ((e :: l).find? p).elim d f = if p e then f e else (l.find? p).elim d f := by
  cases h : p e <;> simp [h]

/-- Outside the I/O window no row of an I/O register matches. -/
theorem no_io_register_of_not_inWindow (h : ¬ inWindow Config.reference.winIo a = true) :
    a ≠ 0x5000 ∧ a ≠ 0x5003 ∧ a ≠ 0x5040 ∧ ¬ inSpriteBlock Config.reference a = true ∧
    a ≠ 0x5080 ∧ a ≠ 0x50C0 := by
  have hne {b : Addr} (hb : inWindow Config.reference.winIo b = true) : a ≠ b := by rintro rfl; exact h hb
  have hsprite : ¬ inSpriteBlock Config.reference a = true := by
    rw [inSpriteBlock_reference_iff, inWindow_iff]
    rw [inWindow_iff] at h
    change ¬(0x5000 ≤ a.toNat ∧ a.toNat ≤ 0x50FF) at h
    change ¬(0x5060 ≤ a.toNat ∧ a.toNat ≤ 0x506F)
    omega
  exact ⟨hne (by decide), hne (by decide), hne (by decide), hsprite, hne (by decide), hne (by decide)⟩

/-- The first matching row is the row of the address's target. -/
theorem mapLookup_eq_targetRow (a : Addr) : mapLookup a = targetRow a (decodeAddr Config.reference a) := by
  have hrom : a &&& 0xC000 = 0x0000 ↔ _ :=
    and_allOnes_shiftLeft_eq_iff_inWindow Config.reference.winRom 14 (by decide) (by decide) a
  have hvram : a &&& 0xFC00 = 0x4000 ↔ _ :=
    and_allOnes_shiftLeft_eq_iff_inWindow Config.reference.winVram 10 (by decide) (by decide) a
  have hcram : a &&& 0xFC00 = 0x4400 ↔ _ :=
    and_allOnes_shiftLeft_eq_iff_inWindow Config.reference.winCram 10 (by decide) (by decide) a
  have hwram : a &&& 0xFC00 = 0x4C00 ↔ _ :=
    and_allOnes_shiftLeft_eq_iff_inWindow Config.reference.winWram 10 (by decide) (by decide) a
  have hio : a &&& 0xFF00 = 0x5000 ↔ _ :=
    and_allOnes_shiftLeft_eq_iff_inWindow Config.reference.winIo 8 (by decide) (by decide) a
  have hsprite : a &&& 0xFFF0 = 0x5060 ↔ _ :=
    (and_allOnes_shiftLeft_eq_iff_inWindow ⟨0x5060, 0x506F⟩ 4 (by decide) (by decide) a).trans
      (inSpriteBlock_reference_iff a).symm
  have hfull : a &&& 0xFFFF = a := BitVec.and_allOnes
  have hall : a &&& 0x0000 = 0x0000 := BitVec.and_zero
  simp only [mapLookup_eq_elim, mapTable, find?_elim_cons, beq_iff_eq, hfull, hall, hrom, hvram, hcram, hwram, hio,
    hsprite, if_true, decodeAddr, apply_ite (targetRow a)]
  by_cases hin : inWindow Config.reference.winIo a = true
  · simp only [hin, if_true, targetRow, planeRow, ioRow]
  · obtain ⟨h0, h1, h2, hs, h3, h4⟩ := no_io_register_of_not_inWindow hin
    simp only [hin, h0, h1, h2, hs, h3, h4, if_false, targetRow, planeRow, Bool.false_eq_true]

/-! The dispatch under the reference addresses. -/

theorem decodeAddr_of_usesReferenceMap (h : usesReferenceMap c) : decodeAddr c a = decodeAddr Config.reference a := by
  obtain ⟨hrom, hvram, hcram, hwram, hio, -⟩ := h
  simp only [decodeAddr, hrom, hvram, hcram, hwram, hio]

/-- The slot of an address in the reference sprite block is its low four bits. -/
theorem spriteSlot_reference (h : c.spriteBase = 0x5060) : spriteSlot c a = a.extractLsb' 0 4 := by
  apply BitVec.eq_of_toNat_eq
  simp [spriteSlot, h, BitVec.toNat_sub, BitVec.extractLsb'_toNat]
  omega

/-- An address of the I/O window is a register's, or none and in or out of the sprite block. -/
theorem ioRow_cases (a : Addr) :
    (a = 0x5000 ∧ ioRow a = .in0Ie) ∨ (a = 0x5003 ∧ ioRow a = .flip) ∨ (a = 0x5040 ∧ ioRow a = .in1) ∨
    (a = 0x5080 ∧ ioRow a = .cfg0) ∨ (a = 0x50C0 ∧ ioRow a = .cfg1) ∨
    (a ≠ 0x5000 ∧ a ≠ 0x5003 ∧ a ≠ 0x5040 ∧ a ≠ 0x5080 ∧ a ≠ 0x50C0 ∧
      ioRow a = if inSpriteBlock Config.reference a then .sprite else .ioGap) := by
  by_cases h0 : a = 0x5000
  · subst h0; decide
  by_cases h1 : a = 0x5003
  · subst h1; decide
  by_cases h2 : a = 0x5040
  · subst h2; decide
  by_cases h3 : a = 0x5080
  · subst h3; decide
  by_cases h4 : a = 0x50C0
  · subst h4; decide
  · simp only [ioRow, h0, h1, h2, h3, h4, if_false, false_and, false_or, ne_eq, not_false_eq_true, true_and]

/-- The column "read" of the I/O window's rows is IORead (41_driver_bus.md R183). -/
theorem State.ioRead_eq_rowRead (h : usesReferenceMap s.cfg) (a : Addr) :
    some (s.ioRead a) = s.rowRead a (ioRow a) := by
  obtain ⟨-, -, -, -, -, hin0, hin1, hcfg0, hcfg1, -, -, hbase⟩ := h
  have hread : s.ioRead a =
      if a = 0x5000 then s.in0 else if a = 0x5040 then s.in1 else if a = 0x5080 then s.cfg.cfg0Value
      else if a = 0x50C0 then s.cfg.cfg1Value
      else if inSpriteBlock Config.reference a then s.spriteRead (a.extractLsb' 0 4) else 0xFF := by
    rw [State.ioRead, hin0, hin1, hcfg0, hcfg1, spriteSlot_reference hbase, inSpriteBlock, hbase]
    rfl
  rcases ioRow_cases a with ⟨rfl, hr⟩ | ⟨rfl, hr⟩ | ⟨rfl, hr⟩ | ⟨rfl, hr⟩ | ⟨rfl, hr⟩ | ⟨h0, -, h2, h3, h4, hr⟩
  all_goals rw [hread, hr]
  iterate 5 rfl
  simp only [h0, h2, h3, h4, if_false]
  by_cases hs : inSpriteBlock Config.reference a = true
  · simp only [hs, if_true, State.spriteRead, State.rowRead]
    cases s.cfg.spriteReadback <;> rfl
  · simp only [hs, State.rowRead, Bool.false_eq_true, if_false]

/-- The column "write" of the I/O window's rows is IOWrite (41_driver_bus.md R184). -/
theorem State.ioWrite_eq_rowWrite (h : usesReferenceMap s.cfg) (a : Addr) (v : Byte) :
    some (s.ioWrite a v) = s.rowWrite a v (ioRow a) := by
  obtain ⟨-, -, -, -, -, -, -, -, -, hie, hflip, hbase⟩ := h
  have hwrite : s.ioWrite a v =
      if a = 0x5000 then s.setIe (bit0 v) else if a = 0x5003 then s.setFlip (bit0 v)
      else if inSpriteBlock Config.reference a then s.latchSprite (a.extractLsb' 0 4) v else s := by
    rw [State.ioWrite, hie, hflip, spriteSlot_reference hbase, inSpriteBlock, hbase]
    rfl
  rcases ioRow_cases a with ⟨rfl, hr⟩ | ⟨rfl, hr⟩ | ⟨rfl, hr⟩ | ⟨rfl, hr⟩ | ⟨rfl, hr⟩ | ⟨h0, h1, -, -, -, hr⟩
  all_goals rw [hwrite, hr]
  iterate 5 rfl
  simp only [h0, h1, if_false]
  split_ifs <;> rfl

theorem State.memRead_eq_rowRead (h : usesReferenceMap s.cfg) : s.memRead a = s.rowRead a (mapLookup a) := by
  rw [mapLookup_eq_targetRow, ← decodeAddr_of_usesReferenceMap h, State.memRead]
  cases decodeAddr s.cfg a with
  | backed p => cases p <;> rfl
  | io => exact State.ioRead_eq_rowRead h a
  | unmapped => rfl

theorem State.memWrite_eq_rowWrite (h : usesReferenceMap s.cfg) (v : Byte) :
    s.memWrite a v = s.rowWrite a v (mapLookup a) := by
  rw [mapLookup_eq_targetRow, ← decodeAddr_of_usesReferenceMap h, State.memWrite]
  cases decodeAddr s.cfg a with
  | backed p => cases p <;> rfl
  | io => exact State.ioWrite_eq_rowWrite h a v
  | unmapped => rfl

/-! ### The pseudo-instructions of a RUNF body (30_encoding.md R110) -/

theorem State.memWrite_of_io (h : decodeAddr s.cfg a = .io) (v : Byte) : s.memWrite a v = some (s.ioWrite a v) := by
  simp only [State.memWrite, h]

/-- The sprite block lies in the I/O window, so no slot's address wraps (00_scope.md R6, WF7). -/
theorem Admissible.toNat_slotAddr (h : Admissible c) (i : Fin 16) :
    (c.spriteBase + BitVec.ofNat 16 i.val).toNat = c.spriteBase.toNat + i.val := by
  obtain ⟨-, hhi, -⟩ := h.spriteBlock i.val (by omega)
  have := c.winIo.hi.isLt
  simp only [BitVec.toNat_add, BitVec.toNat_ofNat]
  omega

theorem Admissible.decodeAddr_slotAddr (h : Admissible c) (i : Fin 16) :
    decodeAddr c (c.spriteBase + BitVec.ofNat 16 i.val) = .io := by
  obtain ⟨hlo, hhi, -⟩ := h.spriteBlock i.val (by omega)
  rw [h.decodeAddr_eq_io_iff, inWindow_iff, h.toNat_slotAddr]
  exact ⟨hlo, hhi⟩

theorem Admissible.inSpriteBlock_slotAddr (h : Admissible c) (i : Fin 16) :
    inSpriteBlock c (c.spriteBase + BitVec.ofNat 16 i.val) = true := by
  rw [inSpriteBlock, h.toNat_slotAddr]
  simp [Config.spriteLast]
  omega

theorem spriteSlot_slotAddr (c : Cfg) (i : Fin 16) :
    (spriteSlot c (c.spriteBase + BitVec.ofNat 16 i.val)).toNat = i.val := by
  rw [spriteSlot, BitVec.add_comm, BitVec.add_sub_cancel]
  simp

/-- No write register is a slot of the sprite block (00_scope.md R6, WF7). -/
theorem Admissible.slotAddr_ne (h : Admissible c) (i : Fin 16) :
    c.spriteBase + BitVec.ofNat 16 i.val ≠ c.ieAddr ∧ c.spriteBase + BitVec.ofNat 16 i.val ≠ c.flipAddr := by
  obtain ⟨-, -, hregs⟩ := h.spriteBlock i.val (by omega)
  rw [← h.toNat_slotAddr i] at hregs
  exact ⟨fun he => hregs c.ieAddr (by simp) (congrArg BitVec.toNat he.symm),
    fun he => hregs c.flipAddr (by simp) (congrArg BitVec.toNat he.symm)⟩

theorem State.memWrite_ieAddr (h : Admissible s.cfg) (v : Byte) :
    s.memWrite s.cfg.ieAddr v = some (s.setIe (bit0 v)) := by
  obtain ⟨-, hin⟩ := h.writeRegisters
  have hio : decodeAddr s.cfg s.cfg.ieAddr = .io := h.decodeAddr_eq_io_iff.2 ((inWindow_iff _ _).2 (hin _ (by simp)))
  rw [State.memWrite_of_io hio, State.ioWrite, if_pos rfl]

theorem State.memWrite_flipAddr (h : Admissible s.cfg) (v : Byte) :
    s.memWrite s.cfg.flipAddr v = some (s.setFlip (bit0 v)) := by
  obtain ⟨hne, hin⟩ := h.writeRegisters
  have hio : decodeAddr s.cfg s.cfg.flipAddr = .io := h.decodeAddr_eq_io_iff.2 ((inWindow_iff _ _).2 (hin _ (by simp)))
  rw [State.memWrite_of_io hio, State.ioWrite, if_neg hne.symm, if_pos rfl]

theorem State.memWrite_slotAddr (h : Admissible s.cfg) (i : Fin 16) (v : Byte) :
    s.memWrite (s.cfg.spriteBase + BitVec.ofNat 16 i.val) v = some (s.setSprite (s.sprite.set i.val v i.isLt)) := by
  obtain ⟨hie, hflip⟩ := h.slotAddr_ne i
  rw [State.memWrite_of_io (h.decodeAddr_slotAddr i), State.ioWrite, if_neg hie, if_neg hflip,
    if_pos (h.inSpriteBlock_slotAddr i)]
  simp only [State.latchSprite, spriteSlot_slotAddr]

/-- A write of the body that raises no fault goes on with the rest of the body. -/
theorem State.runBody_write_cons {v : Byte} (hw : s.memWrite a v = some t) (hf : t.fault = none) (ops : List BusOp) :
    s.runBody (.write a v :: ops) = (t.reply .none).runBody ops := by
  simp [State.runBody, State.perform, State.busWrite, hw, hf]

/-! ### The obligations -/

/-- Settles O1: decoding is the converse of encoding. -/
theorem decodeOfEncodeIsTheInstruction : Obligations.DecodeOfEncodeIsTheInstruction := by
  unfold Obligations.DecodeOfEncodeIsTheInstruction
  exact fun i => decode_eq_ok_iff_encode.2 rfl

/-- Settles O2: the row that the OP byte selects is the one row whose match and mask fit the word. -/
theorem decodeAcceptsExactlyTheOpcodeTable : Obligations.DecodeAcceptsExactlyTheOpcodeTable := by
  unfold Obligations.DecodeAcceptsExactlyTheOpcodeTable
  exact fun w i => decode_eq_ok_iff

/-- Settles O3: encoding is the converse of decoding. -/
theorem encodeOfDecodeIsTheWord : Obligations.EncodeOfDecodeIsTheWord := by
  unfold Obligations.EncodeOfDecodeIsTheWord
  exact fun w i => decode_eq_ok_iff_encode.1

/-- Settles O7: the decoder accepts no word outside the table, and the step refuses what does not decode. -/
theorem invalidWordIsRefused : Obligations.InvalidWordIsRefused := by
  unfold Obligations.InvalidWordIsRefused
  intro s d ds ha hp hno
  obtain ⟨e, he⟩ := decode_eq_error_of_no_match hno
  exact step_of_decode_error ha (State.intake_cons hp) he

/-- Settles O13: the first matching row is the row of the address's target. -/
theorem referenceTableIsTheDispatch : Obligations.ReferenceTableIsTheDispatch := by
  unfold Obligations.ReferenceTableIsTheDispatch
  exact fun s a v h => ⟨State.memRead_eq_rowRead h, State.memWrite_eq_rowWrite h v⟩

/-- Settles O60: each write of the body reaches its register, and the body goes on. -/
theorem bodyPseudoInstructionsSetTheirRegisters : Obligations.BodyPseudoInstructionsSetTheirRegisters := by
  unfold Obligations.BodyPseudoInstructionsSetTheirRegisters
  intro s v e0 e1 n ha hf
  have h := admitted_iff_admissible.1 ha
  refine ⟨State.runBody_write_cons (State.memWrite_ieAddr h v) hf [],
    State.runBody_write_cons (State.memWrite_flipAddr h v) hf [], ?_⟩
  have h0 := State.memWrite_slotAddr h ⟨2 * n.val, by omega⟩ e0
  have h1 := State.memWrite_slotAddr (s := (s.setSprite (s.sprite.set (2 * n.val) e0)).reply .none) h
    ⟨2 * n.val + 1, by omega⟩ e1
  exact (State.runBody_write_cons h0 hf _).trans (State.runBody_write_cons h1 hf [])

/-- Settles O5: the value of each kind, as a number. -/
theorem responseWordHoldsStatusAndValue : Obligations.ResponseWordHoldsStatusAndValue := by
  unfold Obligations.ResponseWordHoldsStatusAndValue
  refine ⟨rfl, rfl, rfl, rfl, rfl, rfl, fun b => ?_, rfl, fun r => ?_, rfl, fun n hn => ?_,
    fun f n => ⟨?_, fun hf => ?_⟩⟩
  · rw [← BitVec.toNat_inj, toNat_responseWord_ok, valueBits, BitVec.toNat_setWidth, BitVec.toNat_setWidth]
    omega
  · rw [toNat_responseWord_ok, toNat_valueBits_handle]
  · rw [toNat_responseWord_ok, toNat_valueBits_size hn]
  · have := (frameCountBits f).isLt
    rw [toNat_responseWord_ok, toNat_valueBits_stats]
    split_ifs <;> omega
  · rw [toNat_responseWord_ok, toNat_valueBits_stats, frameCountBits_toNat hf]
    omega

end Sys2Proof.Machine
end

section
/-! The statements of 40_address_space_ops.md: the region allocator (R141 to R144), the page table (R145), the byte
accesses through it (R146 to R148), and what the live count and the memory usage range over. -/

namespace Sys2Proof.Machine

variable {s : State} {r : RegionId} {a : Addr} {i off : Nat} {ro : Bool} {f : State → State}

/-! ### The state check every command of this section begins with (40_address_space_ops.md R140) -/

/-- A body behind the state check answers StateError in HaltedError. -/
theorem next_command_of_halted (hf : s.fault = none) (h : s.sched = .haltedError) :
    (.next (s.command fun u => u.unlessHalted f) : Host.Outcome State Fault Refusal) = .next (s.fail .state) := by
  rw [State.command_of_fault_none hf, State.unlessHalted, if_pos h]

/-- A body behind the state check runs outside HaltedError. -/
theorem next_command_of_not_halted (hf : s.fault = none) (h : s.sched ≠ .haltedError) :
    (.next (s.command fun u => u.unlessHalted f) : Host.Outcome State Fault Refusal) = .next (f s) := by
  rw [State.command_of_fault_none hf, State.unlessHalted, if_neg h]

/-! ### Translation (40_address_space_ops.md R146) -/

theorem State.translate_of_unmapped (h : s.page (a.toNat / 256) = .unmapped) : s.translate a = none := by
  rw [State.translate_eq, h]

theorem State.translate_of_mapped (h : s.page (a.toNat / 256) = .mapped r off ro) :
    s.translate a = some (r, off + a.toNat % 256, ro) := by
  rw [State.translate_eq, h]

/-! ### Reads and writes through the page table (40_address_space_ops.md R147, R148) -/

theorem State.asRead_of_unmapped (h : s.page (a.toNat / 256) = .unmapped) : s.asRead a = Config.openBus := by
  rw [State.asRead, State.translate_of_unmapped h]

theorem State.asRead_of_mapped (h : s.page (a.toNat / 256) = .mapped r off ro) {b : Byte}
    (hb : s.byteAt r (off + a.toNat % 256) = some b) : s.asRead a = b := by
  simp only [State.asRead, State.translate_of_mapped h, State.regionByte, hb, Option.getD_some]

/-- ASWrite drops the byte of an Unmapped or read-only page. -/
theorem State.asWrite_of_not_writable
    (h : s.page (a.toNat / 256) = .unmapped ∨ ∃ r off, s.page (a.toNat / 256) = .mapped r off true) (v : Byte) :
    s.asWrite a v = s := by
  rcases h with h | ⟨r, off, h⟩
  · simp only [State.asWrite, State.storeTarget, State.translate_of_unmapped h]
  · simp only [State.asWrite, State.storeTarget, State.translate_of_mapped h]

theorem State.asWrite_of_writable (h : s.page (a.toNat / 256) = .mapped r off false) (v : Byte) :
    s.asWrite a v = s.putByte r (off + a.toNat % 256) v := by
  simp only [State.asWrite, State.storeTarget, State.translate_of_mapped h]

/-- Storing a byte that exists makes it the byte stored. -/
theorem State.byteAt_putByte_same (h : s.byteAt r i ≠ none) (v : Byte) : (s.putByte r i v).byteAt r i = some v := by
  obtain ⟨b, hb⟩ := Option.ne_none_iff_exists'.1 h
  rw [State.byteAt_putByte, if_pos rfl, hb, Option.map_some]

/-! ### The pages that refer to a region (40_address_space_ops.md R142) -/

theorem refersTo_iff {d : PageDesc} : refersTo r d = true ↔ ∃ off ro, d = .mapped r off ro := by
  cases d <;> simp [refersTo]

/-! ### MAP's range (40_address_space_ops.md R145) -/

/-- The pages MAP installs are those from the first bound's to the last bound's. -/
theorem read_mapPages_range {lo hi : Addr} (hle : lo.toNat ≤ hi.toNat) (r : RegionId) (ro : Bool)
    (l : Sparse PageDesc) (p : Nat) :
    Sparse.read .unmapped (mapPages r ro lo.toNat (rangePages lo hi) (pageNumber lo) l) p =
      if lo.toNat / 256 ≤ p ∧ p ≤ hi.toNat / 256 then .mapped r (p * 256 - lo.toNat) ro
      else Sparse.read .unmapped l p := by
  have hlast : p < lo.toNat / 256 + (hi.toNat / 256 - lo.toNat / 256 + 1) ↔ p ≤ hi.toNat / 256 := by omega
  simp only [read_mapPages, rangePages, pageNumber, hlast]

/-- A range that MAP's checks pass is one they do not refuse, so it is installed. -/
theorem State.mapRange_of_fits {R : Region} {lo hi : Addr} (hR : s.region r = some R) (hlo : lo.toNat % 256 = 0)
    (hhi : hi.toNat % 256 = 255) (hle : lo.toNat ≤ hi.toNat) (hsize : hi.toNat - lo.toNat + 1 ≤ R.size)
    (ro : Bool) :
    ∃ l, s.mapRange r lo hi ro = some (s.setPages l) ∧ ∀ p, Sparse.read .unmapped l p =
      if lo.toNat / 256 ≤ p ∧ p ≤ hi.toNat / 256 then .mapped r (p * 256 - lo.toNat) ro else s.page p := by
  rcases s.mapRange_cases r lo hi ro with ⟨hbad, -⟩ | ⟨-, l, -, -, -, -, -, hm, rfl⟩
  · simp only [hR, Option.some.injEq, exists_eq_left', reduceCtorEq, false_or] at hbad
    omega
  · exact ⟨_, hm, read_mapPages_range hle r ro s.pages⟩

theorem State.mapRange_of_refused {lo hi : Addr} (hbad : s.region r = none ∨ lo.toNat % 256 ≠ 0 ∨
    hi.toNat % 256 ≠ 255 ∨ hi.toNat < lo.toNat ∨ ∃ R, s.region r = some R ∧ R.size < hi.toNat - lo.toNat + 1)
    (ro : Bool) : s.mapRange r lo hi ro = none := by
  rcases s.mapRange_cases r lo hi ro with ⟨-, hm⟩ | ⟨R, l, hR, hlo, hhi, hle, hsize, -, -⟩
  · exact hm
  · simp only [hR, Option.some.injEq, exists_eq_left', reduceCtorEq, false_or] at hbad
    omega

/-! ### Sums over the live regions (40_address_space_ops.md R141, 43_frame_scheduler.md R266) -/

/-- A key below every listed one is not listed. -/
theorem Sparse.read_of_forall_lt {α : Type} {d : α} {l : Sparse α} {k : Nat} (h : ∀ e ∈ l, k < e.1) :
    Sparse.read d l k = d := by
  by_contra hne
  exact Nat.lt_irrefl k (h _ (Sparse.mem_of_read d l k hne))

/-- Each listed region is the region of exactly one id, so a sum over the list is the sum over the ids. -/
theorem Sparse.sum_live_eq_sum_read (g : Region → Nat) {l : Sparse (Option Region)}
    (hl : l.Pairwise fun e e' => e.1 < e'.1) (hb : ∀ e ∈ l, e.1 < 256) :
    ((l.filterMap fun e => e.2).map g).sum = ∑ r : RegionId, ((Sparse.read none l r.toNat).map g).getD 0 := by
  induction l with
  | nil => simp
  | cons e l ih =>
    obtain ⟨j, x⟩ := e
    obtain ⟨hj, hlt⟩ := List.pairwise_cons.1 hl
    obtain ⟨hj256, hbt⟩ := List.forall_mem_cons.1 hb
    obtain ⟨r₀, rfl⟩ : ∃ r₀ : RegionId, r₀.toNat = j :=
      ⟨BitVec.ofNatLT j hj256, BitVec.toNat_ofNatLT j hj256⟩
    have hsplit (r : RegionId) : ((Sparse.read none ((r₀.toNat, x) :: l) r.toNat).map g).getD 0 =
        (if r₀ = r then (x.map g).getD 0 else 0) + ((Sparse.read none l r.toNat).map g).getD 0 := by
      rw [Sparse.read_cons]
      by_cases hr : r₀ = r
      · subst hr; simp [Sparse.read_of_forall_lt hj]
      · simp [BitVec.toNat_inj, hr]
    simp only [hsplit, Finset.sum_add_distrib, Finset.sum_ite_eq, Finset.mem_univ, if_true, ← ih hlt hbt]
    cases x <;> simp

theorem State.sum_liveRegions (h : s.RegionsWf) (g : Region → Nat) :
    (s.liveRegions.map g).sum = ∑ r : RegionId, ((s.region r).map g).getD 0 :=
  Sparse.sum_live_eq_sum_read g h.1.1 h.2

/-! ### The obligations -/

/-- Settles O27: the pages after FREE's loop, then the dropped region. -/
theorem freeDropsTheRegionAndItsPages : Obligations.FreeDropsTheRegionAndItsPages := by
  unfold Obligations.FreeDropsTheRegionAndItsPages
  intro s r hf
  refine ⟨next_command_of_halted hf, fun hs hr => (next_command_of_not_halted hf hs).trans ?_, fun hs hr => ?_⟩
  · rw [State.release_of_none hr]; rfl
  · refine ⟨(s.release r).reply .none, next_command_of_not_halted hf hs, ?_, ?_, fun q hq => ?_,
      fun p off ro hp => ?_, fun p hp => ?_⟩
    · rw [State.release_eq]; rfl
    · rw [State.reply_region, State.region_release, if_pos rfl]
    · rw [State.reply_region, State.region_release, if_neg hq.symm]
    · rw [State.reply_page, State.page_release hr, if_pos (refersTo_iff.2 ⟨off, ro, hp⟩)]
    · rw [State.reply_page, State.page_release hr, if_neg (mt refersTo_iff.1 (by simpa using hp))]

/-- Settles O30: MAP's checks decide between its two outcomes, and its loop runs over the pages of the range. -/
theorem mapInstallsTheRangeOrNothing : Obligations.MapInstallsTheRangeOrNothing := by
  unfold Obligations.MapInstallsTheRangeOrNothing
  intro s r lo hi ro hf
  refine ⟨next_command_of_halted hf, fun hs hbad => (next_command_of_not_halted hf hs).trans ?_,
    fun R hs hR hlo hhi hle hsize => ?_⟩
  · rw [State.mapRange_of_refused hbad]; rfl
  · obtain ⟨l, hm, hpages⟩ := State.mapRange_of_fits hR hlo hhi hle hsize ro
    refine ⟨(s.setPages l).reply .none, (next_command_of_not_halted hf hs).trans ?_, rfl, hpages⟩
    rw [hm]

/-- Settles O32: ASWrite stores nothing, or the one byte at the translated place, which every alias translates to. -/
theorem aswrStoresThroughThePageTable : Obligations.AswrStoresThroughThePageTable := by
  unfold Obligations.AswrStoresThroughThePageTable
  intro s a v hf
  refine ⟨next_command_of_halted hf, fun hs hp => (next_command_of_not_halted hf hs).trans ?_,
    fun r off hs hp hb => ?_⟩
  · rw [State.asWrite_of_not_writable hp]; rfl
  · have hstored := State.byteAt_putByte_same hb v
    refine ⟨(s.putByte r (off + a.toNat % 256) v).reply .none,
      (next_command_of_not_halted hf hs).trans ?_, ?_, hstored, fun q j hne => ?_, fun b ro off' hpb halias =>
      State.asRead_of_mapped (r := r) (off := off') (ro := ro) ?_ ?_⟩
    · rw [State.asWrite_of_writable hp]
    · rw [State.putByte_eq]; rfl
    · rw [State.reply_byteAt, State.byteAt_putByte, if_neg hne]
    · rw [State.reply_page, State.page_congr (s.putByte_pages r _ v), hpb]
    · rw [halias]; exact hstored

/-- Settles O33: both are sums over the live regions, the count of the constant 1. -/
theorem liveCountAndUsageAreOverTheLiveIds : Obligations.LiveCountAndUsageAreOverTheLiveIds := by
  unfold Obligations.LiveCountAndUsageAreOverTheLiveIds
  refine fun s h => ⟨?_, State.sum_liveRegions h Region.size⟩
  calc s.liveCount = (s.liveRegions.map fun _ => 1).sum := by simp [State.liveCount]
    _ = ∑ r : RegionId, ((s.region r).map fun _ => 1).getD 0 := State.sum_liveRegions h _
    _ = ∑ r : RegionId, if (s.region r).isSome = true then 1 else 0 :=
      Finset.sum_congr rfl fun r _ => by cases s.region r <;> rfl
    _ = _ := (Finset.card_filter _ _).symm

/-- Settles O26: ALLOC's checks decide between its two outcomes, and the new region's bytes are unlisted. -/
theorem allocMakesAZeroedRegionOrNothing : Obligations.AllocMakesAZeroedRegionOrNothing := by
  unfold Obligations.AllocMakesAZeroedRegionOrNothing
  intro s r n hf
  have hzero : n = 0 ↔ n.toNat = 0 := BitVec.toNat_inj.symm
  refine ⟨next_command_of_halted hf, fun hs hbad => (next_command_of_not_halted hf hs).trans ?_,
    fun hs hr hn hmax hcount => ?_⟩
  · rw [State.alloc_eq_none.2 (by rwa [← hzero])]; rfl
  · refine ⟨(s.setRegion r (some ⟨n.toNat, Memory.zero, ""⟩)).reply .none,
      (next_command_of_not_halted hf hs).trans ?_, rfl, ?_, ?_, fun i hi => ?_, fun q hq => ?_⟩
    · rw [State.alloc_eq_some.2 ⟨hr, mt hzero.2 hn, hmax, hcount, rfl⟩]
    · simp
    · simp
    · simp [State.byteAt, hi]
    · rw [State.reply_region, State.region_setRegion, if_neg hq.symm]

/-- Settles O28: the handle names a live region, and its response word is the number 0x100 + r. -/
theorem gbaseAnswersTheHandle : Obligations.GbaseAnswersTheHandle := by
  unfold Obligations.GbaseAnswersTheHandle
  intro s r hf
  refine ⟨next_command_of_halted hf, fun hs hr => (next_command_of_not_halted hf hs).trans ?_,
    fun hs hr => (next_command_of_not_halted hf hs).trans ?_, rfl, ?_⟩
  · rw [hr]; rfl
  · obtain ⟨R, hR⟩ := Option.ne_none_iff_exists'.1 hr
    rw [hR]; rfl
  · have hbits : (0x100 ||| r.setWidth 64 : BitVec 64).toNat = 0x100 + r.toNat := by
      rw [BitVec.toNat_or, BitVec.toNat_setWidth_of_le (by decide)]
      exact (Nat.two_pow_add_eq_or_of_lt (i := 8) r.isLt 1).symm
    rw [← BitVec.toNat_inj, toNat_responseWord_ok, toNat_valueBits_handle, hbits]

/-- Settles O29: the size is that of the region, if there is one. -/
theorem gsizeAnswersTheSize : Obligations.GsizeAnswersTheSize := by
  unfold Obligations.GsizeAnswersTheSize
  intro s r hf
  refine ⟨next_command_of_halted hf, fun hs hr => (next_command_of_not_halted hf hs).trans ?_,
    fun R hs hR => (next_command_of_not_halted hf hs).trans ?_⟩
  · rw [hr]; rfl
  · rw [hR]; rfl

/-- Settles O31: ASRead of an Unmapped page is the open bus, of a mapped one the translated byte. -/
theorem asrdReadsThroughThePageTable : Obligations.AsrdReadsThroughThePageTable := by
  unfold Obligations.AsrdReadsThroughThePageTable
  intro s a hf
  refine ⟨next_command_of_halted hf, fun hs hp => (next_command_of_not_halted hf hs).trans ?_,
    fun r off ro b hs hp hb => (next_command_of_not_halted hf hs).trans ?_⟩
  · rw [State.asRead_of_unmapped hp]; rfl
  · rw [State.asRead_of_mapped hp hb]; rfl

end Sys2Proof.Machine
end

section
/-! The statements of 41_driver_bus.md: who may use the bus (R180), the dispatch of its reads and writes (R181 to R187),
the four commands (R188 to R192), the register bits (R193), and the frames the core runs over it
(43_frame_scheduler.md R263). -/

namespace Sys2Proof.Machine

variable {s t : State} {c : Cfg} {p : Plane} {a b : Addr} {ro : Bool} {f : State → State}

/-! ### The state checks the bus commands begin with (41_driver_bus.md R180) -/

/-- A body of the core's runs inside an `execute` call. -/
theorem next_command_of_inExecute (hf : s.fault = none) (h : s.inExecute = true) :
    (.next (s.command fun u => if u.inExecute then f u else u.refuse) : Host.Outcome State Fault Refusal) =
      .next (f s) := by
  rw [State.command_of_fault_none hf, if_pos h]

/-- A body of the core's is refused outside an `execute` call. -/
theorem next_command_of_not_inExecute (hf : s.fault = none) (h : s.inExecute = false) :
    (.next (s.command fun u => if u.inExecute then f u else u.refuse) : Host.Outcome State Fault Refusal) =
      .next s.refuse := by
  rw [State.command_of_fault_none hf, if_neg (by simp [h])]

/-- A body behind the driver's state check runs when the driver is ready and not halted. -/
theorem next_command_of_ready (hf : s.fault = none) (hr : s.ready = true) (hs : s.sched ≠ .haltedError) :
    (.next (s.command fun u => u.whenReady f) : Host.Outcome State Fault Refusal) = .next (f s) := by
  rw [State.command_of_fault_none hf, State.whenReady, if_neg (by simp [hr, hs])]

/-- A body behind the driver's state check answers StateError otherwise. -/
theorem next_command_of_not_ready (hf : s.fault = none) (h : s.ready = false ∨ s.sched = .haltedError) :
    (.next (s.command fun u => u.whenReady f) : Host.Outcome State Fault Refusal) = .next (s.fail .state) := by
  rw [State.command_of_fault_none hf, State.whenReady, if_pos (by simpa using h)]

/-! ### The dispatch of a window address (41_driver_bus.md R181, R182, R187) -/

theorem State.memRead_of_io (h : decodeAddr s.cfg a = .io) : s.memRead a = some (s.ioRead a) := by
  simp only [State.memRead, h]

theorem State.memRead_of_checkBacked (hd : decodeAddr s.cfg a = .backed p) (hc : s.checkBacked p a = true) :
    s.memRead a = some (s.asRead a) := by
  simp only [State.memRead, hd, hc, if_true]

/-- The driver itself discards a ROM-window write (41_driver_bus.md R182). -/
theorem State.memWrite_of_rom (hd : decodeAddr s.cfg a = .backed .rom) (v : Byte) :
    s.memWrite a v = if s.checkBacked .rom a then some s else none := by
  simp only [State.memWrite, hd]

theorem State.memWrite_of_ram (hp : p ≠ .rom) (hd : decodeAddr s.cfg a = .backed p) (v : Byte) :
    s.memWrite a v = if s.checkBacked p a then some (s.asWrite a v) else none := by
  cases p with
  | rom => contradiction
  | vram | cram | wram => simp only [State.memWrite, hd]

theorem State.busStoreTarget_of_ram (hp : p ≠ .rom) (hd : decodeAddr s.cfg a = .backed p) :
    s.busStoreTarget a = s.storeTarget a := by
  cases p with
  | rom => contradiction
  | vram | cram | wram => simp only [State.busStoreTarget, hd]

/-- A driver read faults exactly at a window address that CheckBacked does not pass. -/
theorem State.memRead_eq_none_iff :
    s.memRead a = none ↔ ∃ p, decodeAddr s.cfg a = .backed p ∧ s.checkBacked p a = false := by
  unfold State.memRead
  cases decodeAddr s.cfg a <;> simp

/-- A driver write faults exactly where a read does. -/
theorem State.memWrite_eq_none_iff (v : Byte) :
    s.memWrite a v = none ↔ ∃ p, decodeAddr s.cfg a = .backed p ∧ s.checkBacked p a = false := by
  unfold State.memWrite
  cases decodeAddr s.cfg a with
  | backed p => cases p <;> simp
  | io | unmapped => simp

theorem State.checkBacked_eq_false_iff : s.checkBacked p a = false ↔ ∀ ro, ¬ s.Backs p a ro := by
  rw [← not_exists, ← State.checkBacked_iff, Bool.not_eq_true]

/-- A window address whose page is mapped to the window's own region at its own offset reads that region's byte. -/
theorem State.memRead_of_backs (hd : decodeAddr s.cfg a = .backed p) (hb : s.Backs p a ro) {x : Byte}
    (hx : s.byteAt (planeId p) (a.toNat - (planeWindow s.cfg p).lo.toNat) = some x) : s.memRead a = some x := by
  have hc := (s.checkBacked_iff p a).2 ⟨ro, hb⟩
  obtain ⟨off, hpage, hoff⟩ := hb
  rw [State.memRead_of_checkBacked hd hc, State.asRead_of_mapped hpage (hoff ▸ hx)]

/-- A write of such a RAM address, on a writable page, stores that region's byte. -/
theorem State.memWrite_of_backs (hp : p ≠ .rom) (hd : decodeAddr s.cfg a = .backed p) (hb : s.Backs p a false)
    (v : Byte) :
    s.memWrite a v = some (s.putByte (planeId p) (a.toNat - (planeWindow s.cfg p).lo.toNat) v) := by
  have hc := (s.checkBacked_iff p a).2 ⟨false, hb⟩
  obtain ⟨off, hpage, hoff⟩ := hb
  rw [State.memWrite_of_ram hp hd, if_pos hc, State.asWrite_of_writable hpage, hoff]

theorem State.Backs.congr (h : s.Backs p a ro) (hp : t.pages = s.pages) (hc : t.cfg = s.cfg) : t.Backs p a ro := by
  rwa [State.Backs, State.page_congr hp, hc]

/-! ### The registers of the I/O window (00_scope.md R6, WF5 and WF7) -/

/-- No register address is a slot of the sprite block. -/
theorem Admissible.slotAddr_ne_register (h : Admissible c) (i : Fin 16)
    (hb : b ∈ [c.in0Addr, c.in1Addr, c.cfg0Addr, c.cfg1Addr, c.ieAddr, c.flipAddr]) :
    c.spriteBase + BitVec.ofNat 16 i.val ≠ b := by
  obtain ⟨-, -, hregs⟩ := h.spriteBlock i.val (by omega)
  rintro rfl
  exact hregs _ hb (h.toNat_slotAddr i)

theorem exists_slotAddr_of_inSpriteBlock (h : inSpriteBlock c a = true) :
    ∃ i : Fin 16, a = c.spriteBase + BitVec.ofNat 16 i.val := by
  obtain ⟨hlo, hhi⟩ : c.spriteBase.toNat ≤ a.toNat ∧ a.toNat ≤ c.spriteBase.toNat + 15 := by
    simpa [inSpriteBlock, Config.spriteLast] using h
  have := a.isLt
  refine ⟨⟨a.toNat - c.spriteBase.toNat, by omega⟩, BitVec.eq_of_toNat_eq ?_⟩
  simp only [BitVec.toNat_add, BitVec.toNat_ofNat]
  omega

/-- The read registers lie in the I/O window, so IORead serves them. -/
theorem State.memRead_readRegister (h : Admissible s.cfg)
    (hb : b ∈ [s.cfg.in0Addr, s.cfg.in1Addr, s.cfg.cfg0Addr, s.cfg.cfg1Addr]) : s.memRead b = some (s.ioRead b) := by
  obtain ⟨-, hin⟩ := h.readRegisters
  exact State.memRead_of_io (h.decodeAddr_eq_io_iff.2 ((inWindow_iff _ _).2 (hin b hb)))

/-- The four read registers, each at its own address (41_driver_bus.md R183). -/
theorem State.ioRead_readRegisters (h : Admissible s.cfg) :
    s.ioRead s.cfg.in0Addr = s.in0 ∧ s.ioRead s.cfg.in1Addr = s.in1 ∧
    s.ioRead s.cfg.cfg0Addr = s.cfg.cfg0Value ∧ s.ioRead s.cfg.cfg1Addr = s.cfg.cfg1Value := by
  obtain ⟨hnodup, -⟩ := h.readRegisters
  simp only [List.nodup_cons, List.mem_cons, List.not_mem_nil, or_false, not_or] at hnodup
  obtain ⟨⟨h01, h02, h03⟩, ⟨h12, h13⟩, h23, -⟩ := hnodup
  unfold State.ioRead
  refine ⟨if_pos rfl, ?_, ?_, ?_⟩
  · rw [if_neg (Ne.symm h01), if_pos rfl]
  · rw [if_neg (Ne.symm h02), if_neg (Ne.symm h12), if_pos rfl]
  · rw [if_neg (Ne.symm h03), if_neg (Ne.symm h13), if_neg (Ne.symm h23), if_pos rfl]

/-- Off the four read registers only the sprite block is left (41_driver_bus.md R183). -/
theorem State.ioRead_of_not_register (h : a ∉ [s.cfg.in0Addr, s.cfg.in1Addr, s.cfg.cfg0Addr, s.cfg.cfg1Addr]) :
    s.ioRead a = if inSpriteBlock s.cfg a then s.spriteRead (spriteSlot s.cfg a) else Config.openBus := by
  simp only [List.mem_cons, List.not_mem_nil, or_false, not_or] at h
  obtain ⟨h0, h1, h2, h3⟩ := h
  rw [State.ioRead, if_neg h0, if_neg h1, if_neg h2, if_neg h3]

/-- SpriteRead by SPRITE_READBACK (41_driver_bus.md R185). -/
theorem State.spriteRead_eq (s : State) (i : BitVec 4) :
    s.spriteRead i = if s.cfg.spriteReadback = .latched then s.sprite.get i.toFin else 0xFF := by
  unfold State.spriteRead
  cases s.cfg.spriteReadback <;> rfl

theorem State.memRead_slotAddr (h : Admissible s.cfg) (i : Fin 16) :
    s.memRead (s.cfg.spriteBase + BitVec.ofNat 16 i.val) =
      some (if s.cfg.spriteReadback = .latched then s.sprite.get i else 0xFF) := by
  have hne : s.cfg.spriteBase + BitVec.ofNat 16 i.val ∉
      [s.cfg.in0Addr, s.cfg.in1Addr, s.cfg.cfg0Addr, s.cfg.cfg1Addr] :=
    fun hmem => h.slotAddr_ne_register i (List.mem_append_left [s.cfg.ieAddr, s.cfg.flipAddr] hmem) rfl
  have hslot : (spriteSlot s.cfg (s.cfg.spriteBase + BitVec.ofNat 16 i.val)).toFin = i :=
    Fin.ext (spriteSlot_slotAddr s.cfg i)
  rw [State.memRead_of_io (h.decodeAddr_slotAddr i), State.ioRead_of_not_register hne,
    if_pos (h.inSpriteBlock_slotAddr i), State.spriteRead_eq, hslot]

/-! ### What a storing command can do (41_driver_bus.md R189, R191, 40_address_space_ops.md R148) -/

/-- The command ended without storing: only the fault, the refused flag and the response may differ. -/
def State.EndedInPlace (s t : State) : Prop :=
  ∃ x r y, t = { s with fault := x, refused := r, response := y }

/-- A driver write ends in place, stores the byte that ASWrite does, or writes an I/O register. -/
theorem State.busWrite_cases (s : State) (a : Addr) (v : Byte) :
    s.EndedInPlace (s.busWrite a v) ∨
    ((∃ p, p ≠ .rom ∧ decodeAddr s.cfg a = .backed p) ∧ s.busWrite a v = (s.asWrite a v).reply .none) ∨
    (decodeAddr s.cfg a = .io ∧ s.busWrite a v = (s.ioWrite a v).reply .none) := by
  unfold State.busWrite
  cases hw : s.memWrite a v with
  | none => exact .inl ⟨_, _, _, rfl⟩
  | some u =>
    rcases State.memWrite_cases hw with rfl | ⟨p, hp, hd, -, rfl⟩ | ⟨hd, rfl⟩
    · exact .inl ⟨_, _, _, rfl⟩
    · exact .inr (.inl ⟨⟨p, hp, hd⟩, rfl⟩)
    · exact .inr (.inr ⟨hd, rfl⟩)

/-- What BWR, DWR and ASWR can do. -/
theorem exec_storing_cases {i : Instr} {v : Byte} (hi : i = .bwr a v ∨ i = .dwr a v ∨ i = .aswr a v)
    (h : exec i s = .next t) :
    s.EndedInPlace t ∨
    ((i = .aswr a v ∨ ∃ p, p ≠ .rom ∧ decodeAddr s.cfg a = .backed p) ∧ t = (s.asWrite a v).reply .none) ∨
    (i ≠ .aswr a v ∧ decodeAddr s.cfg a = .io ∧ t = (s.ioWrite a v).reply .none) := by
  rcases hi with rfl | rfl | rfl
  all_goals
    obtain rfl := Host.Outcome.next.inj h
    rcases s.command_cases _ with ⟨-, hc⟩ | ⟨-, hc⟩ <;> rw [hc]
    · exact .inl ⟨_, _, _, rfl⟩
  case inl.inr =>
    split_ifs
    · simpa using s.busWrite_cases a v
    · exact .inl ⟨_, _, _, rfl⟩
  case inr.inl.inr =>
    rcases s.whenReady_cases _ with ⟨-, hw⟩ | ⟨-, -, hw⟩ <;> rw [hw]
    · exact .inl ⟨_, _, _, rfl⟩
    · simpa using s.busWrite_cases a v
  case inr.inr.inr =>
    rcases s.unlessHalted_cases _ with ⟨-, hw⟩ | ⟨-, hw⟩ <;> rw [hw]
    · exact .inl ⟨_, _, _, rfl⟩
    · exact .inr (.inl ⟨.inl rfl, rfl⟩)

/-- ASWrite changes no byte but the one at its target. -/
theorem State.byteAt_asWrite_of_ne {r : RegionId} {j : Nat} (h : s.storeTarget a ≠ some (r, j)) (v : Byte) :
    (s.asWrite a v).byteAt r j = s.byteAt r j := by
  rcases s.asWrite_cases a v with ⟨-, hw⟩ | ⟨q, k, ht, hw⟩
  · rw [hw]
  · rw [hw, State.byteAt_putByte, if_neg fun he => h (ht.trans (congrArg some he.symm))]

/-! ### Frames over backed windows (43_frame_scheduler.md R263) -/

/-- Every address of the four windows is backed by its own region. -/
def State.WindowsBacked (s : State) : Prop := ∀ p a, decodeAddr s.cfg a = .backed p → ∃ ro, s.Backs p a ro

theorem State.WindowsBacked.congr (h : s.WindowsBacked) (hp : t.pages = s.pages) (hc : t.cfg = s.cfg) :
    t.WindowsBacked := by
  intro p a hd
  obtain ⟨ro, hb⟩ := h p a (hc ▸ hd)
  exact ⟨ro, hb.congr hp hc⟩

theorem State.WindowsBacked.not_unbacked (h : s.WindowsBacked) (a : Addr) :
    ¬ ∃ p, decodeAddr s.cfg a = .backed p ∧ s.checkBacked p a = false := by
  rintro ⟨p, hd, hc⟩
  obtain ⟨ro, hb⟩ := h p a hd
  exact State.checkBacked_eq_false_iff.1 hc ro hb

/-- No bus transaction of the core faults. -/
theorem State.WindowsBacked.perform_fault (h : s.WindowsBacked) (hf : s.fault = none) (op : BusOp) :
    (s.perform op).fault = none := by
  cases op with
  | read a =>
    obtain ⟨x, hx⟩ := Option.ne_none_iff_exists'.1 (mt State.memRead_eq_none_iff.1 (h.not_unbacked a))
    simpa [State.perform, State.coreRead, hx] using hf
  | write a v =>
    obtain ⟨u, hu⟩ := Option.ne_none_iff_exists'.1 (mt (State.memWrite_eq_none_iff v).1 (h.not_unbacked a))
    have huf : u.fault = s.fault := by rw [State.memWrite_eq hu]
    simpa [State.perform, State.busWrite, hu] using huf.trans hf

/-- The core's whole traffic faults nowhere: no transaction changes what backs the windows. -/
theorem State.WindowsBacked.runBody_fault (h : s.WindowsBacked) (hf : s.fault = none) (ops : List BusOp) :
    (s.runBody ops).fault = none := by
  have key : (s.runBody ops).WindowsBacked ∧ (s.runBody ops).fault = none :=
    State.runBody_induct (fun u => u.WindowsBacked ∧ u.fault = none)
      (fun u op ⟨hb, hu⟩ => ⟨hb.congr (u.perform_pages op) (u.perform_cfg op), hb.perform_fault hu op⟩) ops s ⟨h, hf⟩
  exact key.right

theorem State.WindowsBacked.execute_fault (h : s.WindowsBacked) (hf : s.fault = none) : s.execute.fault = none :=
  State.WindowsBacked.runBody_fault (s := frameStart s) (h.congr rfl rfl) hf s.draw.body

/-! ### The obligations -/

/-- Settles O20: WF5 and WF7 keep the five clauses of IORead apart. -/
theorem ioReadsServeTheRegisters : Obligations.IoReadsServeTheRegisters := by
  unfold Obligations.IoReadsServeTheRegisters
  intro s ha
  have h := admitted_iff_admissible.1 ha
  obtain ⟨hin0, hin1, hcfg0, hcfg1⟩ := State.ioRead_readRegisters h
  refine ⟨(State.memRead_readRegister h (by simp)).trans (congrArg some hin0),
    (State.memRead_readRegister h (by simp)).trans (congrArg some hin1),
    (State.memRead_readRegister h (by simp)).trans (congrArg some hcfg0),
    (State.memRead_readRegister h (by simp)).trans (congrArg some hcfg1),
    State.memRead_slotAddr h, fun a hw hreg hslot => ?_⟩
  rw [State.memRead_of_io (h.decodeAddr_eq_io_iff.2 hw), State.ioRead_of_not_register hreg,
    if_neg fun hs => (exists_slotAddr_of_inSpriteBlock hs).elim hslot]

/-- Settles O21: WF6 and WF7 keep the three targets of IOWrite apart. -/
theorem ioWritesStoreTheirTarget : Obligations.IoWritesStoreTheirTarget := by
  unfold Obligations.IoWritesStoreTheirTarget
  intro s v ha
  have h := admitted_iff_admissible.1 ha
  refine ⟨State.memWrite_ieAddr h v, State.memWrite_flipAddr h v, fun i => State.memWrite_slotAddr h i v,
    fun a hw hie hflip hslot => ?_⟩
  rw [State.memWrite_of_io (h.decodeAddr_eq_io_iff.2 hw), State.ioWrite, if_neg hie, if_neg hflip,
    if_neg fun hs => (exists_slotAddr_of_inSpriteBlock hs).elim hslot]

/-- Settles O22: a ROM write that does not fault ends in place, whether served or refused. -/
theorem romWritesChangeNoReadAndFlagsKeepBitZero : Obligations.RomWritesChangeNoReadAndFlagsKeepBitZero := by
  unfold Obligations.RomWritesChangeNoReadAndFlagsKeepBitZero
  refine ⟨fun s t a b v hd _ hx ht => ?_, fun s t v ha hw => ?_, fun s t v ha hw => ?_⟩
  · rcases exec_storing_cases (.inl rfl) hx with ⟨x, r, y, rfl⟩ | ⟨h, -⟩ | ⟨-, hio, -⟩
    · rfl
    · obtain ⟨p, hp, hd'⟩ := h.resolve_left (by simp)
      exact absurd (Target.backed.inj (hd'.symm.trans hd)) hp
    · simp [hd] at hio
  · rw [State.memWrite_ieAddr (admitted_iff_admissible.1 ha), Option.some.injEq] at hw
    subst hw
    exact BitVec.and_one_eq_setWidth_ofBool_getLsbD.symm
  · rw [State.memWrite_flipAddr (admitted_iff_admissible.1 ha), Option.some.injEq] at hw
    subst hw
    exact BitVec.and_one_eq_setWidth_ofBool_getLsbD.symm

/-- Settles O23: the write is one byte store at the place that the next read is served from. -/
theorem ramWriteStoresExactlyOneByte : Obligations.RamWriteStoresExactlyOneByte := by
  unfold Obligations.RamWriteStoresExactlyOneByte
  intro s p a v x hp hd hb hx
  have hstored := State.byteAt_putByte_same (hx ▸ Option.some_ne_none x) v
  refine ⟨_, State.memWrite_of_backs hp hd hb v, State.putByte_eq .., hstored,
    fun r i hne => by rw [State.byteAt_putByte, if_neg hne], ?_⟩
  exact State.memRead_of_backs (by rwa [State.putByte_cfg])
    (hb.congr (State.putByte_pages ..) (State.putByte_cfg ..)) (by rwa [State.putByte_cfg])

/-- Settles O24: each storing command ends in place, stores one byte, or writes an I/O register. -/
theorem storingCommandsLeaveEverythingElse : Obligations.StoringCommandsLeaveEverythingElse := by
  unfold Obligations.StoringCommandsLeaveEverythingElse
  intro i s t a v hi hx
  rcases exec_storing_cases hi hx with ⟨x, r, y, rfl⟩ | ⟨hram, rfl⟩ | ⟨hne, hio, rfl⟩
  · exact ⟨fun _ _ _ _ => rfl, fun _ _ _ _ => rfl, fun _ => rfl, by simp⟩
  · refine ⟨fun hne r j hj => ?_, fun _ r j hj => State.byteAt_asWrite_of_ne hj v, (State.Kept.asWrite s a v).sizes,
      by simp⟩
    obtain ⟨p, hp, hd⟩ := hram.resolve_left hne
    rw [State.busStoreTarget_of_ram hp hd] at hj
    exact State.byteAt_asWrite_of_ne hj v
  · have hregions := s.ioWrite_regions a v
    refine ⟨fun _ r j _ => ?_, fun h => absurd h hne, fun r => ?_, by simp [hne, hio]⟩
    · rw [State.reply_byteAt, State.byteAt_congr hregions]
    · rw [State.reply_region, State.region_congr hregions]

/-- Settles O44: with no fault in the `execute` call, the core's report decides the answer. -/
theorem backedWindowsMeanNoFrameFaults : Obligations.BackedWindowsMeanNoFrameFaults := by
  unfold Obligations.BackedWindowsMeanNoFrameFaults
  intro s hf hs hb
  have hx : s.execute.fault = none := State.WindowsBacked.execute_fault hb hf
  obtain ⟨t, ht⟩ := exec_next .runf s
  refine ⟨t, ht, ?_⟩
  rcases execRunf_cases ht with ⟨h, -⟩ | ⟨-, h, -⟩ | ⟨-, -, h, -⟩ | ⟨-, -, -, hd, rfl⟩ | ⟨-, -, -, hd, rfl⟩
  · exact absurd hf h
  · exact absurd hs h
  · exact absurd hx h
  · simp [hx, hd]
  · simp [hx, hd]

/-- Settles O16: the command runs its body, which finds the byte. -/
theorem busReadsAnswerTheByteAndChangeNothing : Obligations.BusReadsAnswerTheByteAndChangeNothing := by
  unfold Obligations.BusReadsAnswerTheByteAndChangeNothing
  intro s a x hf hx
  refine ⟨fun he => (next_command_of_inExecute hf he).trans ?_, fun hr hs => (next_command_of_ready hf hr hs).trans ?_⟩
  · rw [State.coreRead, hx]; rfl
  · rw [State.busRead, hx]; rfl

/-- Settles O17: the command runs its body, which finds the state MemWrite gives. -/
theorem busWritesApplyTheDriverWrite : Obligations.BusWritesApplyTheDriverWrite := by
  unfold Obligations.BusWritesApplyTheDriverWrite
  intro s t a v hf ht
  have hw : s.busWrite a v = { t with response := some (.ok .none) } := by rw [State.busWrite, ht]; rfl
  exact ⟨fun he => (next_command_of_inExecute hf he).trans (congrArg _ hw),
    fun hr hs => (next_command_of_ready hf hr hs).trans (congrArg _ hw)⟩

/-- Settles O18: CheckBacked passes, and the translated place is the region's byte at a − lo. -/
theorem windowReadGivesTheRegionByte : Obligations.WindowReadGivesTheRegionByte := by
  unfold Obligations.WindowReadGivesTheRegionByte
  exact fun s p a ro x hd hb hx => State.memRead_of_backs hd hb hx

/-- Settles O19: CheckBacked fails, so neither MemRead nor MemWrite is served. -/
theorem unbackedWindowAccessFaults : Obligations.UnbackedWindowAccessFaults := by
  unfold Obligations.UnbackedWindowAccessFaults
  intro s p a v hf hd hb
  have hc : ∃ p, decodeAddr s.cfg a = .backed p ∧ s.checkBacked p a = false :=
    ⟨p, hd, State.checkBacked_eq_false_iff.2 hb⟩
  have hread := State.memRead_eq_none_iff.2 hc
  have hwrite : s.busWrite a v = s.raiseFault (.decodeInvariant a) := by
    rw [State.busWrite, (State.memWrite_eq_none_iff v).2 hc]
  refine ⟨fun he => ⟨(next_command_of_inExecute hf he).trans ?_,
      (next_command_of_inExecute hf he).trans (congrArg _ hwrite)⟩,
    fun hr hs => ⟨(next_command_of_ready hf hr hs).trans ?_,
      (next_command_of_ready hf hr hs).trans (congrArg _ hwrite)⟩⟩
  · rw [State.coreRead, hread]; rfl
  · rw [State.busRead, hread]; rfl

/-- Settles O25: the state check of each bus command, before its body. -/
theorem busCommandsOutsideTheirStateHaveNoEffect : Obligations.BusCommandsOutsideTheirStateHaveNoEffect := by
  unfold Obligations.BusCommandsOutsideTheirStateHaveNoEffect
  exact fun s a v hf =>
    ⟨fun he => ⟨next_command_of_not_inExecute hf he, next_command_of_not_inExecute hf he⟩,
      fun h => ⟨next_command_of_not_ready hf h, next_command_of_not_ready hf h⟩⟩

end Sys2Proof.Machine
end

section
/-! The statements of 42_driver_lifecycle.md: INIT allocates and maps the driver's regions or rolls back (R223), LDROM
copies one image (R224), SHUTDOWN releases the driver (R226), and UPDIN stores the input snapshot (R227). -/

namespace Sys2Proof.Machine

variable {s t : State} {c : Cfg} {p q : Plane} {ps : List Plane} {r : RegionId} {k : Nat}

/-- Without a fault a command answers the state its body gives. -/
theorem next_command (hf : s.fault = none) (f : State → State) :
    (.next (s.command f) : Host.Outcome State Fault Refusal) = .next (f s) :=
  congrArg _ (State.command_of_fault_none hf f)

theorem planeId_injective : Function.Injective planeId := fun p q h =>
  List.inj_on_of_nodup_map (l := driverPlanes) (by decide) (mem_driverPlanes p) (mem_driverPlanes q) h

/-! ### INIT's allocations (42_driver_lifecycle.md R223) -/

/-- The first region is allocated and the rest follow from there. -/
theorem State.allocPlanes_cons_eq_some : s.allocPlanes (p :: ps) = some t ↔
    ∃ u, s.alloc (planeId p) (planeSize s.cfg p) = some u ∧ u.allocPlanes ps = some t := by
  rw [State.allocPlanes]
  cases s.alloc (planeId p) (planeSize s.cfg p) <;> simp

/-- The allocations succeed where no id is live, every size is admitted and the live count leaves room for all. -/
theorem State.exists_allocPlanes (hnodup : ps.Nodup) (hfree : ∀ p ∈ ps, s.region (planeId p) = none)
    (hsize : ∀ p, 1 ≤ planeSize s.cfg p ∧ planeSize s.cfg p ≤ Config.maxRegionSize)
    (hroom : s.liveCount + ps.length ≤ s.cfg.maxRegions) : ∃ t, s.allocPlanes ps = some t := by
  induction ps generalizing s with
  | nil => exact ⟨s, rfl⟩
  | cons p ps ih =>
    obtain ⟨hp, hnodup⟩ := List.nodup_cons.1 hnodup
    obtain ⟨hpfree, hfree⟩ := List.forall_mem_cons.1 hfree
    obtain ⟨hmin, hmax⟩ := hsize p
    rw [List.length_cons] at hroom
    obtain ⟨u, hu⟩ : ∃ u, u = s.setRegion (planeId p) (some ⟨planeSize s.cfg p, Memory.zero, ""⟩) := ⟨_, rfl⟩
    have halloc : s.alloc (planeId p) (planeSize s.cfg p) = some u :=
      State.alloc_eq_some.2 ⟨hpfree, by omega, hmax, by omega, hu⟩
    have hcfg : u.cfg = s.cfg := by rw [hu, State.setRegion_cfg]
    have hcount : u.liveCount = s.liveCount + 1 := by rw [hu, State.liveCount_setRegion_new hpfree]
    have hufree (q : Plane) (hq : q ∈ ps) : u.region (planeId q) = none := by
      rw [hu, State.region_setRegion, if_neg (planeId_injective.ne (ne_of_mem_of_not_mem hq hp).symm), hfree q hq]
    obtain ⟨t, ht⟩ := ih hnodup hufree (hcfg ▸ hsize) (by rw [hcount, hcfg]; omega)
    exact ⟨t, State.allocPlanes_cons_eq_some.2 ⟨u, halloc, ht⟩⟩

/-- Allocations that succeed found no id live, and room for all. -/
theorem State.allocPlanes_fits (h : s.allocPlanes ps = some t) :
    (∀ p ∈ ps, s.region (planeId p) = none) ∧ (ps ≠ [] → s.liveCount + ps.length ≤ s.cfg.maxRegions) := by
  induction ps generalizing s with
  | nil => simp
  | cons p ps ih =>
    obtain ⟨u, hu, ht⟩ := State.allocPlanes_cons_eq_some.1 h
    obtain ⟨hp, -, -, hcount, rfl⟩ := State.alloc_eq_some.1 hu
    obtain ⟨hfree, hroom⟩ := ih ht
    rw [State.liveCount_setRegion_new hp, State.setRegion_cfg] at hroom
    refine ⟨List.forall_mem_cons.2 ⟨hp, fun q hq => ?_⟩, fun _ => ?_⟩
    · have := hfree q hq
      rw [State.region_setRegion] at this
      split_ifs at this
      exact this
    · rw [List.length_cons]
      by_cases hps : ps = []
      · subst hps; exact hcount
      · have := hroom hps
        omega

/-- The allocations make each region zeroed and of its own size, and touch no other id. -/
theorem State.region_allocPlanes (h : s.allocPlanes ps = some t) :
    (∀ p ∈ ps, t.region (planeId p) = some ⟨planeSize s.cfg p, Memory.zero, ""⟩) ∧
    ∀ r, (∀ p ∈ ps, r ≠ planeId p) → t.region r = s.region r := by
  induction ps generalizing s with
  | nil => obtain rfl : s = t := by simpa [State.allocPlanes] using h
           simp
  | cons p ps ih =>
    obtain ⟨u, hu, ht⟩ := State.allocPlanes_cons_eq_some.1 h
    obtain ⟨-, -, -, -, rfl⟩ := State.alloc_eq_some.1 hu
    obtain ⟨hmade, hkept⟩ := ih ht
    refine ⟨List.forall_mem_cons.2 ⟨?_, hmade⟩, fun r hr => ?_⟩
    · by_cases hp : p ∈ ps
      · exact hmade p hp
      · rw [hkept _ fun q hq => planeId_injective.ne (ne_of_mem_of_not_mem hq hp).symm, State.region_setRegion_same]
    · obtain ⟨hrp, hr⟩ := List.forall_mem_cons.1 hr
      rw [hkept r hr, State.region_setRegion, if_neg hrp.symm]

/-- INIT whose allocations succeed: the device registers at their defaults, the tables those of the mappings, and every
other field as before. -/
theorem exec_init_of_allocPlanes {u : State} (hf : s.fault = none) (hs : s.sched = .idle) (hr : s.ready = false)
    (hu : s.allocPlanes driverPlanes = some u) :
    exec .init s = .next { s with
      ready := true, regions := u.regions, pages := (u.mapPlanes driverPlanes).pages, ie := false, flip := false,
      sprite := Vector.replicate 16 0x00, in0 := 0xFF, in1 := 0xFF, frameCount := 0, romLoaded := 0,
      response := some (.ok .none) } := by
  refine (next_command hf _).trans ?_
  rw [if_neg (by simp [hs, hr]), hu]
  dsimp only
  rw [State.mapPlanes_eq]
  generalize (u.mapPlanes driverPlanes).pages = pages
  rw [State.allocPlanes_eq _ hu]
  rfl

/-! ### INIT's mappings (42_driver_lifecycle.md R223) -/

/-- The page lies in the window. -/
abbrev windowHoldsPage (w : Window) (k : Nat) : Prop := w.lo.toNat / 256 ≤ k ∧ k ≤ w.hi.toNat / 256

/-- A page of two windows of an admitted configuration would put its first address in both. -/
theorem Admissible.plane_unique_of_page (h : Admissible c) (hp : windowHoldsPage (planeWindow c p) k)
    (hq : windowHoldsPage (planeWindow c q) k) : p = q := by
  have hpb := h.pageBounds p
  have hqb := h.pageBounds q
  have hhi := (planeWindow c p).hi.isLt
  have hk : (BitVec.ofNat 16 (k * 256)).toNat = k * 256 := Nat.mod_eq_of_lt (by omega)
  refine h.plane_unique (a := BitVec.ofNat 16 (k * 256)) ?_ ?_ <;> rw [inWindow_iff, hk] <;> omega

/-- MAP of a driver region into its window passes its checks (00_scope.md R6: WF1, WF2, WF3). -/
theorem Admissible.mapRange_plane (h : Admissible s.cfg)
    (hR : (s.region (planeId p)).map Region.size = some (planeSize s.cfg p)) :
    ∃ l, s.mapRange (planeId p) (planeWindow s.cfg p).lo (planeWindow s.cfg p).hi (planeReadOnly p) =
        some (s.setPages l) ∧
      ∀ k, (s.setPages l).page k = if windowHoldsPage (planeWindow s.cfg p) k then
        .mapped (planeId p) (k * 256 - (planeWindow s.cfg p).lo.toNat) (planeReadOnly p) else s.page k := by
  obtain ⟨R, hR, hsize⟩ := Option.map_eq_some_iff.1 hR
  obtain ⟨hlo, hhi⟩ := h.pageBounds p
  have hord := h.ordered _ (planeWindow_mem_windows _ p)
  have hfits := h.windowFits p
  exact State.mapRange_of_fits hR hlo hhi hord (by omega) _

/-- The mappings install each window's pages and touch no other page. -/
theorem Admissible.page_mapPlanes (h : Admissible s.cfg)
    (hR : ∀ p, (s.region (planeId p)).map Region.size = some (planeSize s.cfg p)) (ps : List Plane) :
    (∀ p ∈ ps, ∀ k, windowHoldsPage (planeWindow s.cfg p) k → (s.mapPlanes ps).page k =
      .mapped (planeId p) (k * 256 - (planeWindow s.cfg p).lo.toNat) (planeReadOnly p)) ∧
    ∀ k, (∀ p ∈ ps, ¬ windowHoldsPage (planeWindow s.cfg p) k) → (s.mapPlanes ps).page k = s.page k := by
  induction ps generalizing s with
  | nil => exact ⟨by simp, fun _ _ => rfl⟩
  | cons p ps ih =>
    obtain ⟨l, hmap, hpage⟩ := h.mapRange_plane (hR p)
    obtain ⟨hmade, hkept⟩ := ih (s := s.setPages l) h hR
    rw [State.mapPlanes, hmap, Option.getD_some]
    refine ⟨List.forall_mem_cons.2 ⟨fun k hk => ?_, hmade⟩, fun k hk => ?_⟩
    · by_cases hp : p ∈ ps
      · exact hmade p hp k hk
      · rw [hkept k fun q hq hqk => hp (h.plane_unique_of_page hk hqk ▸ hq), hpage, if_pos hk]
    · obtain ⟨hpk, hk⟩ := List.forall_mem_cons.1 hk
      rw [hkept k hk, hpage, if_neg hpk]

/-- The mapped page of a window address holds it at its own offset in the region. -/
theorem State.backs_of_page {a : Addr} {ro : Bool} (hlo : (planeWindow s.cfg p).lo.toNat % 256 = 0)
    (ha : inWindow (planeWindow s.cfg p) a = true) (hpage : s.page (a.toNat / 256) =
      .mapped (planeId p) (a.toNat / 256 * 256 - (planeWindow s.cfg p).lo.toNat) ro) : s.Backs p a ro := by
  have := (inWindow_iff _ _).1 ha
  exact ⟨_, hpage, by omega⟩

theorem windowHoldsPage_of_inWindow {w : Window} {a : Addr} (h : inWindow w a = true) :
    windowHoldsPage w (a.toNat / 256) := by
  have := (inWindow_iff _ _).1 h
  exact ⟨Nat.div_le_div_right this.1, Nat.div_le_div_right this.2⟩

/-! ### LDROM's copy (42_driver_lifecycle.md R224) -/

/-- An image that fits stands at its base, and every other byte is unchanged. -/
theorem State.byteAt_loadRom {R : Region} {base : Nat} {img : List Byte} (hR : s.region (planeId .rom) = some R)
    (hfit : base + img.length ≤ R.size) (r : RegionId) (j : Nat) :
    (s.loadRom base img).byteAt r j =
      if r = planeId .rom ∧ base ≤ j ∧ j < base + img.length then img[j - base]? else s.byteAt r j := by
  have htake : img.take (R.size - base) = img := List.take_of_length_le (by omega)
  simp only [State.loadRom, hR, htake, State.byteAt, State.region_setRegion]
  by_cases hr : planeId .rom = r
  · subst hr
    simp only [if_true, true_and, hR, Memory.read_load]
    by_cases hj : base ≤ j ∧ j < base + img.length
    · have hlt : j - base < img.length := by omega
      simp [hj, hlt, (by omega : j < R.size)]
    · simp [hj]
  · simp [hr, Ne.symm hr]

/-- Marking slot `k` sets bit `k` and no other. -/
theorem getLsbD_markSlot (l : BitVec 4) (k : BitVec 8) {j : Nat} (hj : j < 4) :
    (markSlot l k).getLsbD j = (l.getLsbD j || j == k.toNat) := by
  have hshift : k.toNat ≤ j ∧ j - k.toNat = 0 ↔ j = k.toNat := by omega
  have hbit : (1#4 <<< k.toNat).getLsbD j = (j == k.toNat) := by
    rw [Bool.eq_iff_iff]; simp [hj, hshift]
  rw [markSlot, BitVec.getLsbD_or, hbit]

/-! ### SHUTDOWN's releases (42_driver_lifecycle.md R226) -/

/-- FREE of the driver regions in order. -/
def State.releasePlanes (s : State) (ps : List Plane) : State := ps.foldl (fun u p => u.release (planeId p)) s

@[simp] theorem State.releasePlanes_nil (s : State) : s.releasePlanes [] = s := rfl

@[simp] theorem State.releasePlanes_cons (s : State) (p : Plane) (ps : List Plane) :
    s.releasePlanes (p :: ps) = (s.release (planeId p)).releasePlanes ps := rfl

/-- SHUTDOWN of a ready driver releases its regions. -/
theorem exec_shutdown_of_ready (hf : s.fault = none) (hr : s.ready = true) :
    exec .shutdown s =
      .next ((((s.setSched .idle).releasePlanes driverPlanes).setReady false).reply .none) :=
  (next_command hf _).trans (congrArg _ (if_pos hr))

/-- The releases change only the regions and the pages. -/
theorem State.releasePlanes_eq (s : State) (ps : List Plane) :
    s.releasePlanes ps =
      { s with regions := (s.releasePlanes ps).regions, pages := (s.releasePlanes ps).pages } := by
  induction ps generalizing s with
  | nil => rfl
  | cons p ps ih => rw [State.releasePlanes_cons, ih, State.release_eq]

/-- The releases drop their regions and no other. -/
theorem State.region_releasePlanes (s : State) (ps : List Plane) (r : RegionId) :
    (s.releasePlanes ps).region r = if ∃ p ∈ ps, planeId p = r then none else s.region r := by
  induction ps generalizing s with
  | nil => simp
  | cons p ps ih =>
    simp only [State.releasePlanes_cons, ih, State.region_release, List.exists_mem_cons_iff]
    by_cases hp : planeId p = r <;> simp [hp]

/-- Where no page refers to a region that is not live, FREE leaves no page that refers to its region. -/
theorem State.PagesBacked.page_release (h : s.PagesBacked) (r : RegionId) (k : Nat) :
    (s.release r).page k = if refersTo r (s.page k) = true then .unmapped else s.page k := by
  by_cases hr : s.region r = none
  · have hno : ¬ refersTo r (s.page k) = true := fun href => by
      obtain ⟨off, ro, hk⟩ := refersTo_iff.1 href
      obtain ⟨R, hR, -⟩ := h k r off ro hk
      simp [hr] at hR
    rw [State.release_of_none hr, if_neg hno]
  · exact State.page_release hr k

/-- FREE keeps the page-table invariant (10_state.md R26). -/
theorem State.PagesBacked.release (h : s.PagesBacked) (r : RegionId) : (s.release r).PagesBacked := by
  intro k q off ro hk
  rw [h.page_release] at hk
  split_ifs at hk with href
  have hq : r ≠ q := by rintro rfl; exact href (refersTo_iff.2 ⟨off, ro, hk⟩)
  rw [State.region_release, if_neg hq]
  exact h k q off ro hk

/-- The releases unmap the pages that refer to one of their regions and no other. -/
theorem State.PagesBacked.page_releasePlanes (h : s.PagesBacked) (ps : List Plane) (k : Nat) :
    (s.releasePlanes ps).page k =
      if ∃ p ∈ ps, refersTo (planeId p) (s.page k) = true then .unmapped else s.page k := by
  induction ps generalizing s with
  | nil => simp
  | cons p ps ih =>
    simp only [State.releasePlanes_cons, ih (h.release _), h.page_release, List.exists_mem_cons_iff]
    by_cases hp : refersTo (planeId p) (s.page k) = true <;> simp [hp]

/-! ### The obligations -/

/-- Settles O34: the allocations fit, and WF1 to WF3 let every mapping pass and keep the windows' pages apart. -/
theorem initAllocatesAndMapsTheDriver : Obligations.InitAllocatesAndMapsTheDriver := by
  unfold Obligations.InitAllocatesAndMapsTheDriver
  intro s hadm hf hs hr hfree hroom
  have h := admitted_iff_admissible.1 hadm
  obtain ⟨u, hu⟩ := State.exists_allocPlanes (ps := driverPlanes) (by decide) (fun p _ => hfree p) h.sizes.1 hroom
  obtain ⟨hmade, hkept⟩ := State.region_allocPlanes hu
  have hueq := State.allocPlanes_eq _ hu
  have hcfg : u.cfg = s.cfg := by rw [hueq]
  have hpages : u.pages = s.pages := by rw [hueq]
  obtain ⟨hmapped, hother⟩ := (hcfg ▸ h : Admissible u.cfg).page_mapPlanes
    (fun p => by rw [hmade p (mem_driverPlanes p), hcfg]; rfl) driverPlanes
  rw [hcfg] at hmapped hother
  refine ⟨_, exec_init_of_allocPlanes hf hs hr hu, rfl, fun p => ⟨?_, fun i hi => ?_⟩, fun r hr => ?_,
    fun p a ha => ?_, fun k hk => ?_⟩
  · exact congrArg (Option.map Region.size) (hmade p (mem_driverPlanes p))
  · have hbyte : u.byteAt (planeId p) i = some 0x00 := by
      rw [State.byteAt, hmade p (mem_driverPlanes p)]
      exact if_pos hi
    exact hbyte
  · exact hkept r fun p _ => hr p
  · obtain ⟨hlo, -⟩ := h.pageBounds p
    exact State.backs_of_page hlo ha (hmapped p (mem_driverPlanes p) _ (windowHoldsPage_of_inWindow ha))
  · exact (hother k fun p _ => hk p).trans (congrFun (State.page_congr hpages) k)

/-- Settles O35: an allocation that succeeds had its id free and room for all four. -/
theorem initFailureRollsBackAndHalts : Obligations.InitFailureRollsBackAndHalts := by
  unfold Obligations.InitFailureRollsBackAndHalts
  intro s hf
  refine ⟨fun h => (next_command hf _).trans (congrArg _ (if_pos h)), fun _ hs hr hbad => ?_⟩
  have hnone : s.allocPlanes driverPlanes = none := by
    rw [Option.eq_none_iff_forall_ne_some]
    intro t ht
    obtain ⟨hfree, hroom⟩ := State.allocPlanes_fits ht
    rcases hbad with ⟨p, hp⟩ | hfull
    · exact hp (hfree p (mem_driverPlanes p))
    · exact Nat.not_le_of_lt hfull (hroom (by decide))
  refine (next_command hf _).trans ?_
  rw [if_neg (by simp [hs, hr]), hnone]
  rfl

/-- Settles O36: the copy fits the ROM region, and marking sets the slot's bit. -/
theorem ldromCopiesTheImageIntoItsSlot : Obligations.LdromCopiesTheImageIntoItsSlot := by
  unfold Obligations.LdromCopiesTheImageIntoItsSlot
  intro s k R hf hr hs hk hlen hR hfit
  have hbyte (r : RegionId) (j : Nat) : (s.loadRom (slotBase k) s.image).byteAt r j =
      if r = planeId .rom ∧ k.toNat * 4096 ≤ j ∧ j < k.toNat * 4096 + 4096 then s.image[j - k.toNat * 4096]?
      else s.byteAt r j := by
    have := State.byteAt_loadRom (base := slotBase k) (img := s.image) hR (by rw [hlen]; exact hfit) r j
    rwa [hlen] at this
  refine ⟨((s.loadRom (slotBase k) s.image).setRomLoaded (markSlot s.romLoaded k)).reply .none, ?_, ?_,
    fun i hi => ?_, fun r j hj => ?_, (State.Kept.loadRom s _ _).sizes, fun j hj => getLsbD_markSlot _ _ hj⟩
  · have hfull : ¬ s.image.length ≠ Config.romSlotSize := not_not.2 hlen
    refine (next_command hf _).trans ?_
    rw [if_neg (by simp [hr, hs]), if_neg (Nat.not_le_of_lt hk), if_neg hfull]
  · rw [State.loadRom_eq]; rfl
  · have hslot : k.toNat * 4096 ≤ k.toNat * 4096 + i ∧ k.toNat * 4096 + i < k.toNat * 4096 + 4096 := by omega
    rw [State.reply_byteAt, State.setRomLoaded_byteAt, hbyte, if_pos ⟨rfl, hslot⟩, Nat.add_sub_cancel_left]
  · rw [State.reply_byteAt, State.setRomLoaded_byteAt, hbyte, if_neg hj]

/-- Settles O37: LDROM's three checks, in their order. -/
theorem ldromErrorsChangeNothing : Obligations.LdromErrorsChangeNothing := by
  unfold Obligations.LdromErrorsChangeNothing
  intro s k hf
  refine ⟨fun h => (next_command hf _).trans ?_, fun hr hs hk => (next_command hf _).trans ?_,
    fun hr hs hk hlen => (next_command hf _).trans ?_⟩
  · rw [if_pos h]; rfl
  · rw [if_neg (by simp [hr, hs]), if_pos hk]; rfl
  · rw [if_neg (by simp [hr, hs]), if_neg (Nat.not_le_of_lt hk), if_pos hlen]; rfl

/-- Settles O38: the four releases, under the page-table invariant. -/
theorem shutdownReleasesTheDriver : Obligations.ShutdownReleasesTheDriver := by
  unfold Obligations.ShutdownReleasesTheDriver
  intro s hf
  refine ⟨fun hr => (next_command hf _).trans (congrArg _ (if_neg (by simp [hr]))), fun hr hb => ?_⟩
  have hregion := (s.setSched .idle).region_releasePlanes driverPlanes
  have hpage := State.PagesBacked.page_releasePlanes (s := s.setSched .idle) hb driverPlanes
  refine ⟨_, exec_shutdown_of_ready hf hr, ?_, fun p => ?_, fun r hr => ?_, fun k p off ro hk => ?_, fun k hk => ?_⟩
  · rw [State.releasePlanes_eq]; rfl
  · exact (hregion _).trans (if_pos ⟨p, mem_driverPlanes p, rfl⟩)
  · exact (hregion r).trans (if_neg fun ⟨p, _, hp⟩ => hr p hp.symm)
  · exact (hpage k).trans (if_pos ⟨p, mem_driverPlanes p, refersTo_iff.2 ⟨off, ro, hk⟩⟩)
  · refine (hpage k).trans (if_neg fun ⟨p, _, hp⟩ => ?_)
    obtain ⟨off, ro, hp⟩ := refersTo_iff.1 hp
    exact hk p off ro hp

/-- Settles O39: UPDIN's body, behind the driver's state check. -/
theorem updinStoresTheSnapshot : Obligations.UpdinStoresTheSnapshot := by
  unfold Obligations.UpdinStoresTheSnapshot
  exact fun s p0 p1 hf => ⟨next_command_of_not_ready hf, next_command_of_ready hf⟩

/-- Settles O59: the four allocations fit in a new session's empty region table. -/
theorem initOfANewSessionSucceeds : Obligations.InitOfANewSessionSucceeds := by
  unfold Obligations.InitOfANewSessionSucceeds
  exact ⟨_, exec_init_of_allocPlanes rfl rfl rfl rfl, rfl, rfl, rfl⟩

end Sys2Proof.Machine
end

section
/-! The statements of 43_frame_scheduler.md: the scheduler's transitions (R260) and the cycle budget (R261), START (R262),
the frames RUNF runs (R263, R264, R269, R270), RESET (R265), STATS (R266), and HaltedError (R268). -/

namespace Sys2Proof.Machine

variable {s t : State} {i : Instr} {a : Addr} {v : Byte} {op : BusOp} {ops : List BusOp} {f : State → State}

/-! ### The state checks the scheduler's commands begin with (43_frame_scheduler.md R262, R263, R265) -/

/-- RUNF's and RESET's body answers StateError outside Running. -/
theorem next_command_of_not_running (hf : s.fault = none) (h : s.sched ≠ .running) :
    (.next (s.command fun u => if u.sched ≠ .running then u.fail .state else f u) :
      Host.Outcome State Fault Refusal) = .next (s.fail .state) :=
  (next_command hf _).trans (congrArg _ (if_pos h))

/-- RUNF's and RESET's body runs in Running. -/
theorem next_command_of_running (hf : s.fault = none) (h : s.sched = .running) :
    (.next (s.command fun u => if u.sched ≠ .running then u.fail .state else f u) :
      Host.Outcome State Fault Refusal) = .next (f s) :=
  (next_command hf _).trans (congrArg _ (if_neg (not_not.2 h)))

theorem allLoaded_eq_true_iff (l : BitVec 4) : allLoaded l = true ↔ l = 0b1111 := by simp [allLoaded]

theorem allLoaded_eq_false_iff (l : BitVec 4) : allLoaded l = false ↔ l ≠ 0b1111 := by simp [allLoaded]

/-! ### The core's bus traffic, transaction by transaction (43_frame_scheduler.md R263) -/

/-- A transaction that faults ends the traffic. -/
theorem State.runBody_cons_of_fault (h : (s.perform op).fault ≠ none) (ops : List BusOp) :
    s.runBody (op :: ops) = s.perform op := if_pos (Option.isSome_iff_ne_none.2 h)

/-- After a transaction that does not fault the traffic goes on. -/
theorem State.runBody_cons_of_no_fault (h : (s.perform op).fault = none) (ops : List BusOp) :
    s.runBody (op :: ops) = (s.perform op).runBody ops := if_neg (by simp [h])

/-- Traffic without a fault begins with a transaction without one. -/
theorem State.perform_fault_of_runBody (h : (s.runBody (op :: ops)).fault = none) : (s.perform op).fault = none := by
  by_contra hop
  exact hop (State.runBody_cons_of_fault hop ops ▸ h)

/-- A transaction that faults has no result (60_exceptions.md R306). -/
theorem State.perform_response_of_fault (hs : s.fault = none) (h : (s.perform op).fault ≠ none) :
    (s.perform op).response = none := by
  rcases s.perform_cases op with ⟨a, b, -, hp⟩ | ⟨a, v, u, -, hw, hp⟩ | ⟨a, hp⟩
  · exact absurd (by rw [hp]; exact hs) h
  · exact absurd (by rw [hp, State.memWrite_eq hw]; exact hs) h
  · rw [hp, State.raiseFault_response]

/-- Traffic that faults ends with no result: it ends at the transaction that faults. -/
theorem State.runBody_response_of_fault (hs : s.fault = none) (h : (s.runBody ops).fault ≠ none) :
    (s.runBody ops).response = none := by
  induction ops generalizing s with
  | nil => exact absurd hs h
  | cons op ops ih =>
    by_cases hop : (s.perform op).fault = none
    · rw [State.runBody_cons_of_no_fault hop] at h ⊢
      exact ih hop h
    · rw [State.runBody_cons_of_fault hop]
      exact State.perform_response_of_fault hs hop

/-- Inside an `execute` call a transaction is the command BRD or BWR. -/
theorem exec_busInstr (hf : s.fault = none) (h : s.inExecute = true) (op : BusOp) :
    exec (busInstr op) s = .next (s.perform op) := by
  cases op with
  | read a => exact next_command_of_inExecute hf h
  | write a v => exact next_command_of_inExecute hf h

/-! ### What the traffic leaves of the ROM region (43_frame_scheduler.md R269, 20_memory.md R72) -/

/-- Storing a byte changes no other region. -/
theorem State.region_putByte_of_ne {r q : RegionId} (h : r ≠ q) (j : Nat) (v : Byte) :
    (s.putByte r j v).region q = s.region q := by
  unfold State.putByte
  split
  · split_ifs
    · rw [State.region_setRegion, if_neg h]
    · rfl
  · rfl

/-- CheckBacked holds a RAM window's write to the window's own region, which is not ROM (41_driver_bus.md R187). -/
theorem State.region_rom_memWrite (h : s.memWrite a v = some t) :
    t.region (planeId .rom) = s.region (planeId .rom) := by
  rcases State.memWrite_cases h with rfl | ⟨p, hp, -, hc, rfl⟩ | ⟨-, rfl⟩
  · rfl
  · obtain ⟨ro, off, hpage, -⟩ := (s.checkBacked_iff p a).1 hc
    cases ro with
    | true => rw [State.asWrite_of_not_writable (.inr ⟨_, _, hpage⟩)]
    | false => rw [State.asWrite_of_writable hpage, State.region_putByte_of_ne (planeId_injective.ne hp)]
  · rw [State.region_congr (s.ioWrite_regions a v)]

theorem State.region_rom_perform (s : State) (op : BusOp) :
    (s.perform op).region (planeId .rom) = s.region (planeId .rom) := by
  rcases s.perform_cases op with ⟨a, b, -, hp⟩ | ⟨a, v, u, -, hw, hp⟩ | ⟨a, hp⟩ <;> rw [hp]
  · rfl
  · rw [State.reply_region, State.region_rom_memWrite hw]
  · rfl

theorem State.region_rom_execute (s : State) : s.execute.region (planeId .rom) = s.region (planeId .rom) :=
  State.runBody_induct (fun u => u.region (planeId .rom) = s.region (planeId .rom))
    (fun u op h => (u.region_rom_perform op).trans h) s.draw.body (frameStart s) rfl

/-- RUNF leaves the regions as they were or as the `execute` call left them. -/
theorem execRunf_regions (h : execRunf s = .next t) : t.regions = s.regions ∨ t.regions = s.execute.regions := by
  rcases execRunf_cases h with ⟨-, rfl⟩ | ⟨-, -, rfl⟩ | ⟨-, -, -, rfl⟩ | ⟨-, -, -, -, rfl⟩ | ⟨-, -, -, -, rfl⟩
  · exact .inl rfl
  · exact .inl rfl
  · exact .inr rfl
  · exact .inr rfl
  · exact .inr s.execute.finishFrame_regions

/-! ### Frames that return Ok (43_frame_scheduler.md R270) -/

/-- The `execute` call of a frame makes one Execute call. -/
theorem State.filter_isExecute_execute (s : State) :
    s.execute.cpuOut.filter isExecute = s.cpuOut.filter isExecute ++ [.execute (cycleBudget s.cfg)] := by
  rw [State.execute_cpuOut, List.filter_append]; rfl

/-- The pulse makes no Execute call. -/
theorem State.filter_isExecute_finishFrame (s : State) :
    s.finishFrame.cpuOut.filter isExecute = s.cpuOut.filter isExecute := by
  rw [State.finishFrame_eq, List.filter_append]
  split_ifs <;> simp [isExecute]

/-- Only a completed frame answers Ok. -/
theorem execRunf_of_ok (h : execRunf s = .next t) (hok : t.response = some (.ok .none)) :
    t = s.execute.finishFrame.reply .none := by
  rcases execRunf_cases h with ⟨-, rfl⟩ | ⟨-, -, rfl⟩ | ⟨hf, -, hx, rfl⟩ | ⟨-, -, -, -, rfl⟩ | ⟨-, -, -, -, rfl⟩
  · simp at hok
  · simp at hok
  · have hnone : s.execute.response = none := State.runBody_response_of_fault (s := frameStart s) hf hx
    simp [hnone] at hok
  · simp at hok
  · rfl

/-- The first frame returns Ok and the others follow from there. -/
theorem framesOf_cons_eq_some {d : CoreDraw} {ds : List CoreDraw} : framesOf s (d :: ds) = some t ↔
    ∃ u, exec .runf { s with draw := d } = .next u ∧ u.response = some (.ok .none) ∧ framesOf u ds = some t := by
  obtain ⟨u, hu⟩ := exec_next .runf { s with draw := d }
  simp [framesOf, hu]

/-! ### RESET's DriverReset (42_driver_lifecycle.md R225) -/

/-- Clearing a region changes no other. -/
theorem State.region_clearRegion_of_ne {r q : RegionId} (h : r ≠ q) : (s.clearRegion r).region q = s.region q := by
  unfold State.clearRegion
  split
  · rw [State.region_setRegion, if_neg h]
  · rfl

/-- The bytes of the RAM regions read 0x00. -/
theorem State.byteAt_driverReset {p : Plane} (hp : p ≠ .rom) (j : Nat) :
    s.driverReset.byteAt (planeId p) j = (s.byteAt (planeId p) j).map fun _ => 0x00 := by
  cases p with
  | rom => contradiction
  | vram | cram | wram => simp [State.driverReset, ramPlanes, State.byteAt_clearRegion, planeId]

/-- Every region but those of RAM stays. -/
theorem State.region_driverReset {r : RegionId} (hr : ∀ p, p ≠ .rom → r ≠ planeId p) :
    s.driverReset.region r = s.region r := by
  have hvram := (hr .vram (by decide)).symm
  have hcram := (hr .cram (by decide)).symm
  have hwram := (hr .wram (by decide)).symm
  simp [State.driverReset, ramPlanes, State.region_clearRegion_of_ne, hvram, hcram, hwram]

/-- RESET in Running: DriverReset, then the three calls to the core, and every other field as before. -/
theorem exec_reset_of_running (hf : s.fault = none) (hs : s.sched = .running) :
    exec .reset s = .next { s with
      regions := s.driverReset.regions, ie := false, flip := false, response := some (.ok .none),
      cpuOut := s.cpuOut ++ [.cpuReset, .setReg s.cfg.regPc 0x0000, .setReg s.cfg.regSp (s.cfg.winWram.hi + 1)] } := by
  refine (next_command_of_running hf hs).trans ?_
  rw [State.driverReset_eq]
  generalize s.driverReset.regions = regions
  simp only [State.emit, List.append_assoc]
  rfl

/-! ### The obligations -/

/-- Settles O41: the `execute` call raises no fault and the core reports success, so the frame is finished. -/
theorem runfExecutesThenPulsesThenCounts : Obligations.RunfExecutesThenPulsesThenCounts := by
  unfold Obligations.RunfExecutesThenPulsesThenCounts
  intro s hf hs hok hb
  have hx : s.execute.fault = none := hb
  refine ⟨s.execute.finishFrame.reply .none, (next_command_of_running hf hs).trans ?_, ?_, ?_⟩
  · simp [hx, hok]
  · rw [← s.execute_frameCount, ← s.execute_cfg, State.finishFrame_eq]; rfl
  · rw [State.finishFrame_eq, State.execute_cfg, State.execute_cpuOut, List.append_assoc]; rfl

/-- Settles O42: the fault, and then the core's report, are looked at before the pulse and the count. -/
theorem runfFailuresSkipPulseAndCount : Obligations.RunfFailuresSkipPulseAndCount := by
  unfold Obligations.RunfFailuresSkipPulseAndCount
  intro s hf
  refine ⟨next_command_of_not_running hf, fun hs hb => ?_, fun hs hb hok => ?_⟩
  · have hx : s.execute.fault ≠ none := hb
    have hnone : s.execute.response = none := State.runBody_response_of_fault (s := frameStart s) hf hb
    exact ⟨s.execute, (next_command_of_running hf hs).trans (congrArg _ (if_pos (Option.isSome_iff_ne_none.2 hx))), rfl,
      hnone, by simp [hs], by simp, by simp⟩
  · have hx : s.execute.fault = none := hb
    refine ⟨s.execute.fail .execution, (next_command_of_running hf hs).trans ?_, rfl, by simp [hs], by simp, by simp⟩
    simp [hx, hok]

/-- Settles O43, by induction on the transactions. -/
theorem frameTrafficIsBrdAndBwrInOrder : Obligations.FrameTrafficIsBrdAndBwrInOrder := by
  unfold Obligations.FrameTrafficIsBrdAndBwrInOrder
  intro s ops
  induction ops generalizing s with
  | nil => exact fun _ _ _ => rfl
  | cons op ops ih =>
    intro hf he hb
    have hop := State.perform_fault_of_runBody hb
    rw [State.runBody_cons_of_no_fault hop] at hb ⊢
    rw [List.map_cons, execAll, exec_busInstr hf he]
    exact ih _ hop ((s.perform_inExecute op).trans he) hb

/-- Settles O45: RUNF writes none of the fields, and the regions by bytes outside ROM. -/
theorem runfLeavesTheAddressSpaceAndRom : Obligations.RunfLeavesTheAddressSpaceAndRom := by
  unfold Obligations.RunfLeavesTheAddressSpaceAndRom
  intro s t h
  have hw := State.WrittenBy.of_exec h
  have hpages : t.pages = s.pages := by_contra fun hne => by simpa using hw.pages hne
  have hin0 : t.in0 = s.in0 := by_contra fun hne => by simpa using hw.inputs (.inl hne)
  have hin1 : t.in1 = s.in1 := by_contra fun hne => by simpa using hw.inputs (.inr hne)
  have hrom : t.romLoaded = s.romLoaded := by_contra fun hne => by simpa using hw.romLoaded hne
  have hsched : t.sched = s.sched := by_contra fun hne => by simpa using hw.sched hne
  have hready : t.ready = s.ready := by_contra fun hne => by simpa using hw.ready hne
  obtain ⟨hsizes, hromRegion⟩ : (∀ r, (t.region r).map Region.size = (s.region r).map Region.size) ∧
      t.region (planeId .rom) = s.region (planeId .rom) := by
    rcases execRunf_regions h with hr | hr <;> rw [State.region_congr hr]
    · exact ⟨fun _ => rfl, rfl⟩
    · exact ⟨(State.Kept.execute s).sizes, s.region_rom_execute⟩
  exact ⟨hpages, hsizes, hromRegion, hin0, hin1, hrom, hsched, hready, hw.given⟩

/-- Settles O47, by induction on the frames: each counts one and makes one Execute call. -/
theorem framesCountAndExecuteOnceEach : Obligations.FramesCountAndExecuteOnceEach := by
  unfold Obligations.FramesCountAndExecuteOnceEach
  intro ds
  induction ds with
  | nil =>
    intro s t hs h
    obtain rfl := Option.some.inj h
    simp [Nat.mod_eq_of_lt hs]
  | cons d ds ih =>
    intro s t _ h
    obtain ⟨u, hu, hok, hrest⟩ := framesOf_cons_eq_some.1 h
    obtain rfl := execRunf_of_ok hu hok
    obtain ⟨hcount, hcalls⟩ := ih _ t (by simpa using Nat.mod_lt _ (Nat.two_pow_pos _)) hrest
    refine ⟨?_, ?_⟩
    · rw [hcount]
      simp [Nat.add_assoc, Nat.add_comm 1]
    · rw [hcalls, State.reply_cpuOut, State.filter_isExecute_finishFrame, State.filter_isExecute_execute,
        List.append_assoc]
      simp [List.replicate_succ]

/-- Settles O48: the state check, then DriverReset and the three calls. -/
theorem resetClearsRamAndResynchronisesTheCore : Obligations.ResetClearsRamAndResynchronisesTheCore := by
  unfold Obligations.ResetClearsRamAndResynchronisesTheCore
  intro s hf
  exact ⟨next_command_of_not_running hf, fun hs => ⟨_, exec_reset_of_running hf hs, rfl,
    fun p hp j => State.byteAt_driverReset hp j, fun r hr => State.region_driverReset hr⟩⟩

/-- Settles O50: only INIT, START and SHUTDOWN write the scheduler's state, each by its own rows. -/
theorem schedulerTakesOnlyListedTransitions : Obligations.SchedulerTakesOnlyListedTransitions := by
  unfold Obligations.SchedulerTakesOnlyListedTransitions
  intro i s t hhalted h
  by_cases hsched : t.sched = s.sched
  · exact .inl hsched
  rcases (State.WrittenBy.of_exec h).sched hsched with rfl | rfl | rfl
  · rcases execInit_cases h with ⟨-, rfl⟩ | ⟨-, -, rfl⟩ | ⟨-, hidle, -, -, rfl⟩ | ⟨u, -, -, -, hu, rfl⟩
    · exact .inl rfl
    · exact .inl rfl
    · exact .inr (.inl ⟨rfl, hidle, rfl, rfl⟩)
    · left; rw [State.allocPlanes_eq _ hu]; simp [State.deviceDefaults]
  · rcases execStart_cases h with ⟨-, rfl⟩ | ⟨-, -, rfl⟩ | ⟨-, hidle, hready, hrom, rfl⟩
    · exact .inl rfl
    · exact .inl rfl
    · exact .inr (.inr (.inl ⟨rfl, hidle, hready, (allLoaded_eq_true_iff _).1 hrom, rfl⟩))
  · rcases execShutdown_cases h with ⟨-, rfl⟩ | ⟨-, -, rfl⟩ | ⟨-, hready, rfl⟩
    · exact .inl rfl
    · exact .inl rfl
    · -- the row needs Running: Idle is no change, and HaltedError is not ready
      cases hs : s.sched with
      | idle => simp [schedMay, hs, driverPlanes]
      | running => simp [schedMay, hs, hready, driverPlanes]
      | haltedError => simp [hhalted hs] at hready

/-- Settles O15: the quotient of the two fractions is one fraction of natural numbers. -/
theorem cycleBudgetIsTheFloorOfTheQuotient : Obligations.CycleBudgetIsTheFloorOfTheQuotient := by
  unfold Obligations.CycleBudgetIsTheFloorOfTheQuotient
  intro c
  rw [div_div_div_eq, ← Nat.cast_mul, ← Nat.cast_mul, Rat.floor_natCast_div_natCast]
  rfl

/-- Settles O40: START's one check, over the slot bits as a number. -/
theorem startEntersRunning : Obligations.StartEntersRunning := by
  unfold Obligations.StartEntersRunning
  intro s hf
  refine ⟨fun h => (next_command hf _).trans (congrArg _ (if_pos ?_)), fun hs hr hrom =>
    (next_command hf _).trans (congrArg _ (if_neg ?_))⟩
  · rwa [allLoaded_eq_false_iff]
  · simp [hs, hr, (allLoaded_eq_true_iff _).2 hrom]

/-- Settles O49: STATS' body, behind the driver's state check. -/
theorem statsReportsFrameCountAndUsage : Obligations.StatsReportsFrameCountAndUsage := by
  unfold Obligations.StatsReportsFrameCountAndUsage
  exact fun s hf => ⟨next_command_of_not_ready hf, next_command_of_ready hf⟩

/-- Settles O51: HaltedError fails every host command's state check but SHUTDOWN's, which finds no ready driver. -/
theorem haltedErrorIsTerminal : Obligations.HaltedErrorIsTerminal := by
  unfold Obligations.HaltedErrorIsTerminal
  intro i s hhost hf hs hr
  by_cases hi : i = .shutdown
  · subst hi
    exact (next_command hf _).trans (congrArg _ (if_neg (by simp [hr])))
  rw [if_neg hi]
  cases i with
  | brd | bwr => simp [Instr.wf, Instr.place] at hhost
  | shutdown => contradiction
  | init => exact (next_command hf _).trans (congrArg _ (if_pos (by simp [hs])))
  | ldrom k => exact (next_command hf _).trans (congrArg _ (if_pos (.inl hr)))
  | start => exact (next_command hf _).trans (congrArg _ (if_pos (by simp [hs])))
  | runf | reset => exact next_command_of_not_running hf (by simp [hs])
  | drd | dwr | updin | stats => exact next_command_of_not_ready hf (.inl hr)
  | alloc | free | gbase | gsize | map | asrd | aswr => exact next_command_of_halted hf hs

end Sys2Proof.Machine
end

section
/-! The statements of 60_exceptions.md: idle between commands (R319), and every command of a faulted block refused
(R306). -/

namespace Sys2Proof.Machine

variable {s : State}

/-- With nothing submitted there is no command to take. -/
theorem State.intake_nil (h : s.pending = []) : s.intake = none := by
  rw [State.intake, h]

/-- The block is idle where there is no command to take (60_exceptions.md R319). -/
theorem step_of_no_intake (ha : admitted s.cfg = true) (hin : s.intake = none) : step s = .next s := by
  simp only [step, if_pos ha, hin]

/-! ### The obligations -/

/-- Settles O8: an empty list of submissions gives no command to take, and then the step is idle. -/
theorem nothingSubmittedChangesNothing : Obligations.NothingSubmittedChangesNothing := by
  unfold Obligations.NothingSubmittedChangesNothing
  intro s ha hp
  exact step_of_no_intake ha (State.intake_nil hp)

/-- Settles O11: every arm of `exec` runs its body behind the fault check of `State.command`. -/
theorem faultedBlockRefusesEveryCommand : Obligations.FaultedBlockRefusesEveryCommand := by
  unfold Obligations.FaultedBlockRefusesEveryCommand
  intro i s hf
  exact exec_of_fault hf i

end Sys2Proof.Machine
end

section
/-! The statement of 70_reset_and_hazards.md: the cycle count the core reports has no effect (R350). Of the core's
behaviour a frame reads only the bus traffic and the success flag. -/

namespace Sys2Proof.Machine

variable {s t : State} {d : CoreDraw}

/-- The state with another behaviour of the core given for the frame (43_frame_scheduler.md R263). -/
def State.setDraw (s : State) (d : CoreDraw) : State := { s with draw := d }

/-! ### The bus traffic does not read the core's behaviour -/

theorem State.putByte_setDraw (s : State) (d : CoreDraw) (r : RegionId) (i : Nat) (v : Byte) :
    (s.setDraw d).putByte r i v = (s.putByte r i v).setDraw d := by
  have hr : (s.setDraw d).region r = s.region r := rfl
  unfold State.putByte
  rw [hr]
  cases s.region r with
  | none => rfl
  | some R => dsimp only; split_ifs <;> rfl

theorem State.asWrite_setDraw (s : State) (d : CoreDraw) (a : Addr) (v : Byte) :
    (s.setDraw d).asWrite a v = (s.asWrite a v).setDraw d := by
  have ht : (s.setDraw d).storeTarget a = s.storeTarget a := rfl
  unfold State.asWrite
  rw [ht]
  cases s.storeTarget a with
  | none => rfl
  | some x => exact s.putByte_setDraw d x.1 x.2 v

theorem State.ioWrite_setDraw (s : State) (d : CoreDraw) (a : Addr) (v : Byte) :
    (s.setDraw d).ioWrite a v = (s.ioWrite a v).setDraw d := by
  simp only [State.ioWrite, apply_ite (State.setDraw · d)]
  rfl

theorem State.memWrite_setDraw (s : State) (d : CoreDraw) (a : Addr) (v : Byte) :
    (s.setDraw d).memWrite a v = (s.memWrite a v).map (State.setDraw · d) := by
  have hc : (s.setDraw d).cfg = s.cfg := rfl
  have hb : ∀ p, (s.setDraw d).checkBacked p a = s.checkBacked p a := fun _ => rfl
  unfold State.memWrite
  rw [hc]
  cases decodeAddr s.cfg a with
  | backed p =>
    cases p <;> simp only [hb, s.asWrite_setDraw d a v] <;> split_ifs <;> rfl
  | io => exact congrArg some (s.ioWrite_setDraw d a v)
  | unmapped => rfl

theorem State.perform_setDraw (s : State) (d : CoreDraw) (op : BusOp) :
    (s.setDraw d).perform op = (s.perform op).setDraw d := by
  cases op with
  | read a =>
    have hr : (s.setDraw d).memRead a = s.memRead a := rfl
    simp only [State.perform, State.coreRead, hr]
    cases s.memRead a <;> rfl
  | write a v =>
    simp only [State.perform, State.busWrite, s.memWrite_setDraw d a v]
    cases s.memWrite a v <;> rfl

theorem State.runBody_setDraw (s : State) (d : CoreDraw) (ops : List BusOp) :
    (s.setDraw d).runBody ops = (s.runBody ops).setDraw d := by
  induction ops generalizing s with
  | nil => rfl
  | cons op ops ih =>
    have hop := s.perform_setDraw d op
    by_cases h : (s.perform op).fault = none
    · rw [State.runBody_cons_of_no_fault h, State.runBody_cons_of_no_fault (by rw [hop]; exact h), hop, ih]
    · rw [State.runBody_cons_of_fault h, State.runBody_cons_of_fault (by rw [hop]; exact h), hop]

/-! ### A frame reads the bus traffic and the success flag -/

/-- The `execute` call reads the bus traffic alone. -/
theorem State.execute_setDraw (h : d.body = s.draw.body) : (s.setDraw d).execute = s.execute.setDraw d := by
  have hd : (s.setDraw d).draw.body = s.draw.body := h
  rw [State.execute_eq_runBody, State.execute_eq_runBody, hd]
  exact congrArg (State.setInExecute · false) ((frameStart s).runBody_setDraw d _)

theorem State.finishFrame_setDraw (s : State) (d : CoreDraw) :
    (s.setDraw d).finishFrame = s.finishFrame.setDraw d := by
  rw [State.finishFrame_eq, State.finishFrame_eq]
  rfl

/-- A command's fault check does not read the core's behaviour. -/
theorem State.command_setDraw {f : State → State} (h : f (s.setDraw d) = (f s).setDraw d) :
    (s.setDraw d).command f = (s.command f).setDraw d := by
  rcases s.command_cases f with ⟨hf, hc⟩ | ⟨hf, hc⟩ <;> rw [hc]
  · exact if_pos (Option.isSome_iff_ne_none.2 hf)
  · exact (State.command_of_fault_none (s := s.setDraw d) hf f).trans h

/-- RUNF with the same traffic and the same success ends alike (43_frame_scheduler.md R263, R269). -/
theorem execRunf_setDraw (hbody : d.body = s.draw.body) (hok : d.success = s.draw.success)
    (h : execRunf s = .next t) : execRunf (s.setDraw d) = .next (t.setDraw d) := by
  have hdraw : (s.setDraw d).draw.success = s.draw.success := hok
  have hsched : (s.setDraw d).sched = s.sched := rfl
  have hfault : (s.execute.setDraw d).fault = s.execute.fault := rfl
  obtain rfl := Host.Outcome.next.inj h
  refine congrArg Host.Outcome.next (State.command_setDraw ?_)
  simp only [State.execute_setDraw hbody, State.finishFrame_setDraw, hdraw, hsched, hfault]
  split_ifs <;> rfl

/-! ### The obligation -/

/-- Settles O46: the count is no part of what a frame reads, and RUNF leaves the core's behaviour as it was given. -/
theorem reportedCyclesHaveNoEffect : Obligations.ReportedCyclesHaveNoEffect := by
  unfold Obligations.ReportedCyclesHaveNoEffect
  intro s t n h
  obtain ⟨-, -, -, hdraw⟩ := (State.WrittenBy.of_exec h).given
  rw [hdraw]
  exact execRunf_setDraw rfl rfl h

end Sys2Proof.Machine
end

section
/-! The words of the spec's own decoding table (95_test_vectors.md section 2.1 and part 3), and what refuses a word
(30_encoding.md R104, R105). -/

namespace Sys2Proof

variable {w : Cmd64} {o : Opcode}

/-! ### What refuses a word -/

theorem decode_eq_error_of_ofByte_eq_none (h : Opcode.ofByte (Fields.ofWord w).op = none) :
    decode w = .error (.unassignedOpcode (Fields.ofWord w).op) := by
  simp only [decode, h]

theorem decode_eq_error_of_not_admits (hop : o.code = (Fields.ofWord w).op)
    (hbits : o.layout.admits (Fields.ofWord w) = false) : decode w = .error (.reservedBits o.code) := by
  simp [decode, ← hop, o.ofByte_code, hbits]

end Sys2Proof

namespace Sys2Proof.Machine

/-! ### The obligation -/

/-- Settles O4: each listed command encodes to its word; a refused word sets a reserved bit of its row or has an
unassigned OP byte. -/
theorem specWordsDecodeAsListed : Obligations.SpecWordsDecodeAsListed := by
  unfold Obligations.SpecWordsDecodeAsListed
  simp only [decode_eq_ok_iff_encode]
  have hbwr : decode 0x0200500000000101 = .error (.reservedBits Opcode.bwr.code) :=
    decode_eq_error_of_not_admits (by decide) (by decide)
  have hmap : decode 0x2405800081FF0002 = .error (.reservedBits Opcode.map.code) :=
    decode_eq_error_of_not_admits (by decide) (by decide)
  have hunassigned : decode 0x2700000000000000 = .error (.unassignedOpcode 0x27) :=
    decode_eq_error_of_ofByte_eq_none (by decide)
  refine ⟨?_, ?_, ?_, ?_, ?_, ?_, ?_, hbwr, hmap, hunassigned⟩ <;> decide

end Sys2Proof.Machine
end
